-- ==== Sys2Proof/Word.lean ====
section
/-! DEFINITION. The bytes, check words and small index types of the Fentag 3412, and tables of a fixed
length with one reader and one writer. -/

namespace Sys2Proof

/-- A byte of a frame, a track or a card block. -/
abbrev Byte := BitVec 8

/-- A 16-bit check value (R70) or a group of sixteen half-cells (R71). -/
abbrev Word16 := BitVec 16

/-- A machine unit, 0 or 1 (00_scope, Fixed quantities). -/
abbrev DriveId := Fin 2

/-- A track buffer, 0..2 (R38). -/
abbrev BufferId := Fin 3

/-- A slot of the slot table, 0..7 (R9). -/
abbrev SlotId := Fin 8

/-- An entry of the format table, 0..3 (R1). -/
abbrev FormatId := Fin 4

/-- An input pin DI0..DI8 (R108). -/
abbrev InPin := Fin 9

/-- An output pin DO0..DO5 (R109). -/
abbrev OutPin := Fin 6

/-- The entry `i` of a table. -/
def look {n : Nat} {α : Type} (t : Vector α n) (i : Fin n) : α := t[i]

/-- The table with entry `i` replaced. -/
def put {n : Nat} {α : Type} (t : Vector α n) (i : Fin n) (x : α) : Vector α n := t.set i x

@[simp] theorem look_put_self {n : Nat} {α : Type} (t : Vector α n) (i : Fin n) (x : α) :
    look (put t i x) i = x := by
  simp [look, put]

theorem look_put_ne {n : Nat} {α : Type} (t : Vector α n) (i j : Fin n) (x : α) (h : i ≠ j) :
    look (put t i x) j = look t j := by
  have h' : i.val ≠ j.val := fun e => h (Fin.ext e)
  simp [look, put, h']

@[simp] theorem look_replicate {n : Nat} {α : Type} (x : α) (i : Fin n) :
    look (Vector.replicate n x) i = x := by
  simp [look]

end Sys2Proof
end

