-- ==== Sys2Proof/Syntax.lean ====
section
/-! DEFINITION. The commands of the part: one constructor for each row of the table of operations and
events, in the table's order. -/

namespace Sys2Proof

/-- What the card's data response to a written block reports (R145). -/
inductive DataResponse where
  /-- The block is accepted and the card begins to store it. -/
  | accepted
  /-- The card found the transfer check wrong. -/
  | checkFailed
  /-- The card refuses the write. -/
  | refused
  deriving DecidableEq, Repr

/-- The commands and events of the part. -/
inductive Instr where
  /-- R168: CARD_INFO with this tag and these parameter bytes is carried out. -/
  | cardInfo (tag : Byte) (params : List Byte)
  /-- R151, R169. -/
  | cardRead (tag : Byte) (params : List Byte)
  /-- R152, R170. -/
  | cardWrite (tag : Byte) (params : List Byte)
  /-- R5, R171. -/
  | defineFormat (tag : Byte) (params : List Byte)
  /-- R131, R172. -/
  | eject (tag : Byte) (params : List Byte)
  /-- R173. -/
  | flush (tag : Byte) (params : List Byte)
  /-- R174. -/
  | identify (tag : Byte) (params : List Byte)
  /-- R11, R175. -/
  | loadSlot (tag : Byte) (params : List Byte)
  /-- R129, R176. -/
  | mount (tag : Byte) (params : List Byte)
  /-- R177. -/
  | queryCache (tag : Byte) (params : List Byte)
  /-- R178. -/
  | queryUnit (tag : Byte) (params : List Byte)
  /-- R179. -/
  | reset (tag : Byte) (params : List Byte)
  /-- R124, R180. -/
  | setProfile (tag : Byte) (params : List Byte)
  /-- R137, R181. -/
  | setProtect (tag : Byte) (params : List Byte)
  /-- R15, R182. -/
  | unloadSlot (tag : Byte) (params : List Byte)
  /-- R166: a command whose code names no command. -/
  | badCommand (code tag : Byte) (params : List Byte)
  /-- R155: this many bytes of a transaction, each 0x00 from the panel controller: those of a STATUS frame, counted
  from byte 0, or further bytes of a transaction whose byte 0 is complete. With no byte MSEL is asserted and no
  more. -/
  | status (bytes : Nat)
  /-- R158: byte 0 of a COMMAND frame and these inbound bytes after it, or these further bytes of a transaction
  whose byte 0 is complete. -/
  | command (bytes : List Byte)
  /-- R160: byte 0 of a FETCH REPLY frame and `more` bytes after it, or `more` further bytes of a transaction whose
  byte 0 is complete. -/
  | fetchReply (more : Nat)
  /-- R162: byte 0 of a FETCH REPORTS frame and these inbound bytes after it, the first of them the
  count wanted, or these further bytes of a transaction whose byte 0 is complete. -/
  | fetchReports (bytes : List Byte)
  /-- R155: a byte 0 that names no frame, and `more` bytes after it. -/
  | unknownFrameKind (kind : Byte) (more : Nat)
  /-- R155: MSEL is released. -/
  | mselNegated
  /-- R159: the Command Processor starts the front command. -/
  | commandStart
  /-- R179: a RESET that waited takes effect. -/
  | resetTakesEffect
  /-- R109, R126, R154, R164: the hardware reset ends with the input levels found then: bit i of `pins` for DIi
  asserted, the card detect contact and the card's lock switch. With no `pins` it is asserted and goes on. A reset
  whose assertion is not sent is whole at its end. -/
  | hardwareReset (pins : Option (BitVec 9)) (cdet clsw : Bool)
  /-- R111: the select input of a unit takes a level. -/
  | selectChange (u : DriveId) (level : Bool)
  /-- R116. -/
  | motorAssert (u : DriveId)
  /-- R116. -/
  | motorNegate (u : DriveId)
  /-- R116. -/
  | spinUpExpiry (u : DriveId)
  /-- R113: a STEP pulse, with DIR asserted (`inward`) or negated. -/
  | step (inward : Bool)
  /-- R115: SIDE takes a level. -/
  | sideChange (level : Bool)
  /-- R122. -/
  | wgateAssert
  /-- R122. -/
  | wgateNegate
  /-- R85: a WDATA transition, `ticks` of the reference after the one before it. -/
  | writeTransition (ticks : Nat)
  /-- R32: the revolution of a unit closes. -/
  | indexArrival (u : DriveId)
  /-- R21: the position of a unit passes the last of the index region. -/
  | indexRegionEnd (u : DriveId)
  /-- R35. -/
  | settleExpiry (u : DriveId)
  /-- R76: the byte boundary at which the resume hold of a unit ends. -/
  | resumeHoldEnd (u : DriveId)
  /-- R83. -/
  | ejectHoldExpiry
  /-- R52. -/
  | writeBackDelayExpiry (b : BufferId)
  /-- R44. -/
  | demandFillResumed
  /-- R51. -/
  | prefetchActedOn
  /-- R141: the detect time reaches 20 ms. -/
  | cardDetect
  /-- R153. -/
  | cardRemoval
  /-- R143: CLSW takes a level. -/
  | lockSwitchChange (level : Bool)
  /-- R142: the card answers the start-up exchange under way. `good`: the answer's transfer check
  agrees. `error`: it reports an error. `ready`: it reports that the card has left its idle state.
  `blocks512`: the identification shows that the card addresses 512-byte blocks. `blocks`: the block
  count it gives. Each exchange reads what concerns it. -/
  | startupExchangeAnswer (good error ready blocks512 : Bool) (blocks : Nat)
  /-- R142. -/
  | exchangeTimeout
  /-- R142. -/
  | startupTimeout
  /-- R149. -/
  | arbiterGrant
  /-- R145: the block's bytes and its transfer check are received. -/
  | readPhaseEnd (data : List Byte) (check : Word16)
  /-- R145: the card accepts or refuses the write command. -/
  | writeCommandAnswer (accepted : Bool)
  /-- R145. -/
  | dataResponse (r : DataResponse)
  /-- R145. -/
  | busyEnd
  /-- R145. -/
  | noResponse
  /-- R145. -/
  | busyTimeout
  /-- R62, R133, R135: an eject that waited for a transaction completes. -/
  | unitRelease
  /-- R20. -/
  | bitBoundary (u : DriveId)
  /-- R141: CDET takes a level while the card state is ABSENT. -/
  | cdetChangeWhileAbsent (level : Bool)
  /-- R145. -/
  | cardBlockBegins
  /-- R145. -/
  | lastByteSent
  deriving DecidableEq, Repr

end Sys2Proof
end

