-- ==== Sys2Proof/Decode.lean ====
section
/-! DEFINITION. The command that a word spells by the bits of the table of operations. -/

namespace Sys2Proof

/-- The command that a word of `nbits` bits spells. The table gives bits to none of its rows: the part's commands come
as frames, edges and events, so no word spells one (log entry 24). -/
def decodeTableWord (_nbits _w : Nat) : Option Instr := none

end Sys2Proof
end

