-- ==== Sys2Proof/Config.lean ====
section
/-! DEFINITION. The fixed quantities of the part and the values its manual leaves free. -/

namespace Sys2Proof.Config

/-- Ticks of the 16 MHz reference clock in one millisecond (00_scope, Signals and reference clock). -/
def ticksPerMs : Nat := 16000

/-- Entries of the command queue (R159). -/
def commandQueueSize : Nat := 3

/-- Entries of the reply queue (R160). -/
def replyQueueSize : Nat := 3

/-- Entries of the report queue (R161). -/
def reportQueueSize : Nat := 16

/-- Largest command parameter block, in bytes (R158). -/
def maxParams : Nat := 520

/-- Bytes of a card block and of an image block (00_scope, Terms). -/
def blockBytes : Nat := 512

/-- Sector data capacity of one track buffer, in bytes (R8). -/
def bufferBytes : Nat := 12288

/-- Largest capacity the port holds, in blocks (R142). -/
def maxCapacity : Nat := 4294967295

/-- ID entries of the format capture list (R99). -/
def formatEntries : Nat := 64

/-- Longest interval the data separator counts, in ticks (R85). -/
def maxInterval : Nat := 65535

/-- In-band intervals of a run that lock the data separator (R88). -/
def lockRun : Nat := 16

/-- Ticks for which a transition asserts a read stream (R74). -/
def pulseTicks : Nat := 4

/-- Milliseconds of unbroken detect before a card is started (R141). -/
def detectMs : Nat := 20

/-- Milliseconds that start-up may take (R142). -/
def startupMs : Nat := 1000

/-- Milliseconds that a start-up exchange or an exchange of a transaction may take (R142, R145). -/
def exchangeMs : Nat := 100

/-- Milliseconds for which a card may stay busy after its data response (R145). -/
def busyMs : Nat := 500

/-- Milliseconds of the eject hold (R83). -/
def ejectHoldMs : Nat := 500

/-- A free value. The byte that entry data hold between the allocation of a buffer and its fill, by the
serial number of the allocation and the place of the byte: R40 calls it undefined. Log entry 9. -/
opaque unfilledByte : Nat → Nat → Byte

/-- A free value. Which of the requests of one class and one age the arbiter grants, by the number of
such choices made before: R149 lets it be either. Log entry 10. -/
opaque grantPick : Nat → Nat

/-- A free value. Whether the half-cell that ends a byte place at which mark progress is dropped is
itself compared with the mark patterns: R89 says only that hunting goes on. Log entry 12. -/
opaque rehunt : Bool

end Sys2Proof.Config
end

