-- ==== Sys2Proof/Machine/State.lean ====
section
/-! DEFINITION. The state of the part, as plain data: every register, buffer, queue, counter, mode and
pin that the manual gives it, the queue of waiting commands, and the state after reset. -/

namespace Sys2Proof.Machine

/-- The reasons a step could stop with a fault. There is none: every command and event of the part has an
effect in every state, so no arm of `exec` raises a fault (log entry 28). Safe. -/
inductive Fault where
  deriving DecidableEq, Repr

/-- The reasons a command has no meaning in the model. -/
inductive Refusal where
  /-- Raised by an arm of `exec` whose command has no meaning yet: no arm does. Safe. -/
  | notModelled (mnemonic : String)
  deriving DecidableEq, Repr

/-! ### Formats and slots (chapter 1) -/

/-- R2: the modulation of a track. -/
inductive Encoding where
  | fm
  | mfm
  deriving DecidableEq, Repr

/-- R2: a format descriptor. -/
structure Format where
  /-- encoding -/
  enc : Encoding
  /-- rate R, kbit/s -/
  rate : Nat
  /-- spin, rpm -/
  spin : Nat
  /-- cylinders C -/
  cylinders : Nat
  /-- sides H -/
  sides : Nat
  /-- sectors S -/
  sectors : Nat
  /-- size code N -/
  sizeCode : Nat
  /-- first sector F -/
  first : Nat
  /-- interleave I -/
  interleave : Nat
  /-- skew K -/
  skew : Nat
  /-- lead gap G0 -/
  leadGap : Nat
  /-- index mark present -/
  indexMark : Bool
  /-- mark gap G1 -/
  markGap : Nat
  /-- sector gap G3 -/
  sectorGap : Nat
  /-- order lists, list 0 first -/
  lists : List (List Nat)
  deriving DecidableEq, Repr

/-- R9: a run of consecutive card blocks. -/
structure Extent where
  start : Nat
  count : Nat
  deriving DecidableEq, Repr

/-- R9: what a slot that is not VACANT holds. -/
structure SlotData where
  format : FormatId
  prot : Bool
  offset : Nat
  extents : List Extent
  deriving DecidableEq, Repr

/-- R9: a slot with its state; the other fields are absent while it is VACANT. -/
inductive Slot where
  | vacant
  | loaded (d : SlotData)
  | mounted (d : SlotData)
  deriving DecidableEq, Repr

/-! ### Units (chapters 2, 4, 7, 8) -/

/-- R127: the media state of a unit. -/
inductive Media where
  | empty
  | ready
  | ejecting
  deriving DecidableEq, Repr

/-- R116: the motor state of a unit. -/
inductive Motor where
  | stopped
  | spinningUp
  | atSpeed
  deriving DecidableEq, Repr

/-- R65: the read stream mode of a unit. -/
inductive StreamMode where
  | quiet
  | filler
  | track
  deriving DecidableEq, Repr

/-- R113: a step direction, inward for +1 and outward for −1. -/
inductive Direction where
  | inward
  | outward
  deriving DecidableEq, Repr

/-- What the Drive Port, the Rotation Timer, the Stream Synthesizer and the Media Manager hold for each
unit. Moments are ticks of the reference clock (`State.now`). -/
structure UnitState where
  /-- R113: cylinder position. -/
  cylinder : Nat
  /-- R116. -/
  motor : Motor
  /-- R116: the moment at which a running spin-up timer expires. -/
  spinUpDue : Option Nat
  /-- R119: the disk-change latch is set. -/
  latch : Bool
  /-- R113: last step direction. -/
  lastDir : Direction
  /-- R20: the moment at which the unit's rotation started. -/
  rotationStart : Nat
  /-- R20: the bits begun since then, less one: the number j of the bit under the head. -/
  bitCount : Nat
  /-- R34: the moment at which a running settle expires; none means a settle remaining of 0. -/
  settleDue : Option Nat
  /-- R65: read stream mode. -/
  mode : StreamMode
  /-- R65: previous data bit. -/
  prevBit : Bool
  /-- R65: the resume hold is set. -/
  hold : Bool
  /-- R70: the bytes and the check value of the field under the head, as taken at its mark. -/
  taken : List Byte
  /-- R74: the clock half-cell of the bit under the head. -/
  clockCell : Bool
  /-- R74: the data half-cell of the bit under the head. -/
  dataCell : Bool
  /-- R67: the moment at which a pulse begun before the stream fell silent ends. -/
  pulseEnd : Nat
  /-- R127: media state. -/
  media : Media
  /-- R127: mounted slot. -/
  mounted : Option SlotId
  deriving DecidableEq, Repr

/-! ### The profile (chapter 7) -/

/-- R108: the internal inputs, in the item order of R124. -/
inductive Input where
  | sel0
  | sel1
  | motor0
  | motor1
  | step
  | dir
  | side
  | wgate
  | wdata
  deriving DecidableEq, Repr

/-- R109: the sources of an output pin, in the order of R180. -/
inductive Source where
  | index
  | track0
  | wprot
  | rdata
  | ready
  | dchg
  | density
  | asserted
  | negated
  deriving DecidableEq, Repr

/-- R120: the ready modes. -/
inductive ReadyMode where
  | mediaAndSpeed
  | mediaOnly
  deriving DecidableEq, Repr

/-- R123: the profile. -/
structure Profile where
  /-- The pin of each internal input, in the order of `Input`; none is tied inactive. -/
  inputs : Vector (Option InPin) 9
  /-- The source of each output pin. -/
  outputs : Vector Source 6
  /-- Unit enables. -/
  enables : Vector Bool 2
  /-- Physical cylinders. -/
  physical : Nat
  /-- Spin-up time, ms. -/
  spinUp : Nat
  /-- Settle time, ms. -/
  settle : Nat
  /-- Ready mode. -/
  readyMode : ReadyMode
  /-- Motor follows select. -/
  follows : Vector Bool 2
  /-- Write-back delay, ms. -/
  writeBack : Nat
  /-- Flush on motor stop. -/
  flushOnStop : Bool
  /-- Prefetch. -/
  prefetch : Bool
  /-- Match tolerance, bytes. -/
  tolerance : Nat
  deriving DecidableEq, Repr

/-- R112: the select-conflict state. -/
inductive Conflict where
  | none
  | conflict
  deriving DecidableEq, Repr

/-! ### Track cache (chapter 3) -/

/-- A track, named by unit, cylinder and head (00_scope, Terms). -/
structure Key where
  unit : DriveId
  cylinder : Nat
  head : Nat
  deriving DecidableEq, Repr

/-- R39: the state of a track buffer. -/
inductive BufState where
  | free
  | filling
  | valid
  | dirty
  | flushing
  | unreadable
  | unsaved
  deriving DecidableEq, Repr

/-- R40: an entry of a sector list. -/
structure Entry where
  number : Nat
  dirty : Bool
  data : List Byte
  deriving DecidableEq, Repr

/-- R145: the results of a block transaction. -/
inductive Result where
  | ok
  | noResponse
  | dataCheck
  | writeRejected
  | busyTimeout
  | cardGone
  deriving DecidableEq, Repr

/-- R45, R61: what becomes of a fill whose transaction is in flight. -/
inductive Fate where
  /-- The fill goes on. -/
  | kept
  /-- R45: at the end of the transaction the buffer is allocated to the demand fill of this unit. -/
  | promised (u : DriveId)
  /-- R45, R61: at the end of the transaction the buffer becomes FREE. -/
  | dropped
  deriving DecidableEq, Repr

/-- R55, R56: the progress of a flush attempt. -/
structure Attempt where
  /-- Sectors counted as failed for the rest of the attempt. -/
  failed : List Nat
  /-- Sectors whose flag the take of the block in hand cleared. -/
  cleared : List Nat
  /-- The first block that ended in final failure: its serial number and its result. -/
  failure : Option (Nat × Result)
  /-- R54: the image block of the attempt's last take. -/
  lastTake : Option Nat
  /-- R107: the lowest block that was still to be taken when the attempt's last accepted format capture came. -/
  formatted : Option Nat
  deriving DecidableEq, Repr

/-- R38: a track buffer. -/
structure Buffer where
  state : BufState
  key : Option Key
  /-- R40: the sector list, in physical slot order; empty while FREE. -/
  entries : List Entry
  /-- Present while FILLING. -/
  fillClass : Option Nat
  /-- Present while FLUSHING. -/
  flushClass : Option Nat
  /-- The moment of the last write. -/
  lastWrite : Option Nat
  flushFailures : Nat
  fillRetries : Nat
  recency : Option Nat
  /-- R47, R54: the image block that the fill or the flush attempt asks for. -/
  block : Nat
  /-- R45, R61. -/
  fate : Fate
  /-- R55. -/
  attempt : Attempt
  deriving DecidableEq, Repr

/-- R50: a prefetch prediction and the moment number at which it was formed. -/
structure Prediction where
  key : Key
  formed : Nat
  deriving DecidableEq, Repr

/-- R58: the flush service under way. -/
structure Service where
  /-- The units it names. -/
  units : List DriveId
  /-- The buffers whose attempts have not ended. -/
  open_ : List BufferId
  /-- Whether an attempt has failed. -/
  failed : Bool
  /-- R173: the earliest final failure in its attempts: serial number and result. -/
  failure : Option (Nat × Result)
  deriving DecidableEq, Repr

/-- What the Track Cache holds beside the buffers. -/
structure Cache where
  /-- R38: recency counter. -/
  recency : Nat
  /-- R50. -/
  predictions : Vector (Option Prediction) 2
  /-- R44: the units whose demand fills wait, oldest first. -/
  waiting : List DriveId
  /-- R58. -/
  service : Option Service
  /-- The model's own: serial number of the next final failure of a flush's transaction (R173). -/
  failSerial : Nat
  /-- The model's own: in the event under way a buffer has become VALID, or has left FLUSHING, at which the waiting
  demand fills are taken again (R44, R56), whatever becomes of it in the same event. -/
  passDue : Bool
  deriving DecidableEq, Repr

/-! ### Write capture (chapters 5, 6) -/

/-- R59: what a completed capture holds. -/
inductive CaptureBody where
  /-- A data capture: physical slot and D data bytes. -/
  | data (slot : Nat) (bytes : List Byte)
  /-- An accepted format capture: the fill value of each sector number. -/
  | format (fills : List (Nat × Byte))
  deriving DecidableEq, Repr

/-- R59: a completed capture, with its sector number, none for a format capture. -/
structure Capture where
  key : Key
  sector : Option Nat
  body : CaptureBody
  deriving DecidableEq, Repr

/-- R79: the window items of an open window. -/
structure Window where
  key : Key
  prot : Bool
  inside : Bool
  deriving DecidableEq, Repr

/-- R79: the capture state. -/
inductive CaptureState where
  | idle
  | hunting
  | field
  | format
  deriving DecidableEq, Repr

/-- R89: the kinds of mark byte. -/
inductive MarkKind where
  | a1
  | c2
  deriving DecidableEq, Repr

/-- R79: mark progress, with the stamp of the first transition of its first byte (R91). -/
structure MarkProgress where
  kind : MarkKind
  count : Nat
  stamp : Nat
  deriving DecidableEq, Repr

/-- R99: the data state of an entry of the format capture list. -/
inductive DataState where
  | absent
  | uniform (fill : Byte)
  | nonuniform
  | bad
  deriving DecidableEq, Repr

/-- R99: an entry of the format capture list. -/
structure FormatEntry where
  cylinder : Option Byte
  head : Option Byte
  sector : Option Byte
  size : Option Byte
  idGood : Bool
  data : DataState
  deriving DecidableEq, Repr

/-- R99: the phase of a format capture. -/
inductive FormatPhase where
  | seeking
  | id
  | data
  deriving DecidableEq, Repr

/-- R99: the format capture items. -/
structure FormatCapture where
  /-- start position -/
  start : Option Nat
  phase : Option FormatPhase
  entries : List FormatEntry
  overflow : Bool
  /-- Absent unless the phase is ID or DATA; then an entry of the list, or none. -/
  owner : Option (Option Nat)
  /-- bytes received -/
  received : Nat
  /-- check remainder -/
  remainder : Option Word16
  /-- first data byte -/
  firstByte : Option Byte
  /-- uniform so far -/
  uniform : Bool
  deriving DecidableEq, Repr

/-- R79: what the Write Capture Unit holds. -/
structure Wcu where
  window : Option Window
  /-- R83: the moment at which a running eject hold reaches 0. -/
  ejectHoldDue : Option Nat
  capture : CaptureState
  progress : Option MarkProgress
  /-- R89: the half-cells last passed on since the lock, newest first, at most sixteen: none for a 0,
  the stamp of the transition for a 1 (R86). -/
  cells : List (Option Nat)
  /-- R89, R92: half-cells passed on of the byte place under way, 0..15. -/
  aligned : Nat
  /-- mark position P_m -/
  markPos : Option Nat
  /-- matched slot -/
  slot : Option Nat
  /-- sector number; none stands for 255 -/
  sector : Option Nat
  fieldBytes : List Byte
  /-- check remainder -/
  remainder : Option Word16
  /-- period h -/
  period : Option Nat
  /-- lock state -/
  locked : Bool
  /-- run count -/
  run : Nat
  /-- reference edge: the moment of the window's last transition -/
  refEdge : Option Nat
  /-- R99. -/
  fmt : FormatCapture
  /-- R60: the pending record. -/
  pending : Option Capture
  deriving DecidableEq, Repr

/-! ### Media manager (chapter 8) -/

/-- R131: the modes of an eject. -/
inductive EjectMode where
  | normal
  | force
  deriving DecidableEq, Repr

/-- R127: the phases of an eject. -/
inductive EjectPhase where
  | hold
  | save
  | release
  deriving DecidableEq, Repr

/-- R127: the eject record. -/
structure EjectRecord where
  unit : DriveId
  mode : EjectMode
  phase : EjectPhase
  deriving DecidableEq, Repr

/-! ### Card port (chapter 9) -/

/-- R140: the card states. -/
inductive CardState where
  | absent
  | starting
  | ready
  | failed
  deriving DecidableEq, Repr

/-- R142: the exchanges of start-up, in their order. -/
inductive StartupExchange where
  | resetCard
  | leaveIdle
  | identify
  | readCapacity
  deriving DecidableEq, Repr

/-- R144: the kinds of block transaction. -/
inductive TransKind where
  | readBlock
  | writeBlock
  | merge
  deriving DecidableEq, Repr

/-- R144: who receives the result of a transaction. -/
inductive Requester where
  | fill (b : BufferId)
  | flush (b : BufferId)
  | panel
  deriving DecidableEq, Repr

/-- R148: a request of the arbiter's list. -/
structure Request where
  kind : TransKind
  block : Nat
  requester : Requester
  cls : Nat
  /-- The moment number at which it was posted. -/
  age : Nat
  /-- MERGE: the offsets lo..hi − 1 of the block that lie in the span. -/
  range : Option (Nat × Nat)
  deriving DecidableEq, Repr

/-- R145: where a phase of a transaction has got to. -/
inductive Stage where
  /-- READ: the command is sent and the card's block has not begun. -/
  | awaitBlock
  /-- READ: the block has begun. -/
  | receiving
  /-- WRITE: the command is sent and has no answer. -/
  | awaitAnswer
  /-- WRITE: the block is being sent. -/
  | sending
  /-- WRITE: the last byte is sent and there is no data response. -/
  | awaitResponse
  /-- WRITE: the card holds the data line busy. -/
  | busy
  deriving DecidableEq, Repr

/-- R144: the block transaction in flight. The stage gives the phase. -/
structure Transaction where
  kind : TransKind
  block : Nat
  requester : Requester
  stage : Stage
  /-- The moment from which the limit of the stage runs (R145). -/
  since : Nat
  attempt : Nat
  range : Option (Nat × Nat)
  /-- Whether the patch has been taken. -/
  taken : Bool
  deriving DecidableEq, Repr

/-- R140: what the Card Port holds. -/
structure CardPort where
  /-- The level of the CDET pin. -/
  cdet : Bool
  /-- The level of the CLSW pin. -/
  clsw : Bool
  state : CardState
  /-- R141: the moment from which the detect time counts; none means 0. -/
  detectFrom : Option Nat
  /-- R142: the moment from which the start-up time counts. -/
  startFrom : Option Nat
  /-- R142: the start-up exchange under way and the moment it was sent. -/
  exchange : Option (StartupExchange × Nat)
  /-- R142, R154: power and clock are applied to the card. -/
  power : Bool
  capacity : Option Nat
  /-- lock switch on -/
  lock : Bool
  requests : List Request
  transaction : Option Transaction
  /-- merge scratch; none while empty -/
  scratch : Option (List Byte)
  deriving DecidableEq, Repr

/-! ### Management link and Command Processor (chapters 10, 11) -/

/-- R158: a queued command. -/
structure QueuedCommand where
  code : Byte
  tag : Byte
  params : List Byte
  deriving DecidableEq, Repr

/-- R165: the executing command. -/
structure Executing where
  code : Byte
  tag : Byte
  params : List Byte
  deriving DecidableEq, Repr

/-- R160: the result codes. -/
inductive ResultCode where
  | ok
  | stale
  | badCommand
  | badParam
  | noCard
  | cardError
  | slotBusy
  | unitBusy
  | noMedia
  | refused
  | writeLocked
  deriving DecidableEq, Repr

/-- R160: a reply. -/
structure Reply where
  code : Byte
  tag : Byte
  result : ResultCode
  payload : List Byte
  deriving DecidableEq, Repr

/-- R161: the kinds of report. -/
inductive ReportKind where
  | cardReady
  | cardRemoved
  | cardFailed
  | mediaInserted
  | mediaEjected
  | ejectRefused
  | dataDiscarded
  | trackMiss
  | fillFailed
  | flushFailed
  | unsavedTrack
  | writeStray
  | writeFieldBad
  | writeLost
  | writeProtected
  | formatAccepted
  | formatRejected
  | selectConflict
  deriving DecidableEq, Repr

/-- R161: a report; a field that is none is 0xFF on the link. -/
structure Report where
  kind : ReportKind
  unit : Option DriveId
  cylinder : Option Nat
  head : Option Nat
  sector : Option Nat
  detail : Nat
  deriving DecidableEq, Repr

/-- R155: the frame of the transaction under way. -/
inductive Frame where
  /-- R155, R156: MSEL is asserted and byte 0 is not complete; the status byte taken at the assertion. -/
  | opening (status : Byte)
  /-- Nothing of a frame is left. -/
  | beyond
  /-- R158: the inbound bytes after byte 0. -/
  | command (inbound : List Byte)
  /-- R160: the outbound bytes still to be sent, and whether they are a reply of the queue. -/
  | reply (left : List Byte) (real : Bool)
  /-- R162: the count sent, once fixed, the bytes sent from byte 2 on, and whether a report has been
  dropped since the count was fixed. -/
  | reports (count : Option Nat) (sent : Nat) (dropped : Bool)
  deriving DecidableEq, Repr

/-- What the Management Link holds. -/
structure Link where
  commands : List QueuedCommand
  replies : List Reply
  reports : List Report
  /-- REPORTS_LOST -/
  lost : Bool
  /-- FRAME_FAULT -/
  fault : Bool
  /-- The transaction under way: present while MSEL is asserted. -/
  frame : Option Frame
  /-- The bytes shifted out on MDO since the last assertion of MSEL. -/
  mdo : List Byte
  deriving DecidableEq, Repr

/-! ### The whole -/

/-- The state of the part. -/
structure State where
  /-- The waiting commands, the first to be taken first. -/
  pending : List Instr
  /-- Ticks of the reference clock (log entry 1). -/
  now : Nat
  /-- The model's own: the number of commands taken, the moment number of R148 and R51. -/
  moment : Nat
  /-- The model's own: the free choices made so far (R149). -/
  choices : Nat
  /-- R126, R164: the hardware reset is asserted. -/
  resetPin : Bool
  /-- R108: the sampled levels of DI0..DI8, bit i for DIi asserted. -/
  pins : BitVec 9
  profile : Profile
  conflict : Conflict
  units : Vector UnitState 2
  buffers : Vector Buffer 3
  cache : Cache
  wcu : Wcu
  /-- R1: the format table; none is EMPTY. -/
  formats : Vector (Option Format) 4
  slots : Vector Slot 8
  eject : Option EjectRecord
  card : CardPort
  link : Link
  executing : Option Executing
  deriving DecidableEq, Repr

/-! ### The values after reset -/

/-- R29, R34, R65, R113, R116, R119, R127: a unit after reset. -/
def UnitState.reset : UnitState where
  cylinder := 0
  motor := .stopped
  spinUpDue := none
  latch := true
  lastDir := .inward
  rotationStart := 0
  bitCount := 0
  settleDue := none
  mode := .quiet
  prevBit := false
  hold := false
  taken := []
  clockCell := false
  dataCell := false
  pulseEnd := 0
  media := .empty
  mounted := none

/-- R110, R123: the default profile. -/
def Profile.default : Profile where
  inputs := #v[some 5, some 6, some 7, some 8, some 1, some 2, some 4, some 3, some 0]
  outputs := #v[.rdata, .index, .track0, .wprot, .dchg, .negated]
  enables := #v[true, false]
  physical := 82
  spinUp := 500
  settle := 15
  readyMode := .mediaAndSpeed
  follows := #v[false, false]
  writeBack := 2000
  flushOnStop := true
  prefetch := true
  tolerance := 16

/-- No progress of a flush attempt. -/
def Attempt.none : Attempt := ⟨[], [], Option.none, Option.none, Option.none⟩

/-- R38: a buffer after reset, and a FREE buffer. -/
def Buffer.free : Buffer where
  state := .free
  key := none
  entries := []
  fillClass := none
  flushClass := none
  lastWrite := none
  flushFailures := 0
  fillRetries := 0
  recency := none
  block := 0
  fate := .kept
  attempt := Attempt.none

/-- R38, R50, R64: the cache after reset. -/
def Cache.reset : Cache where
  recency := 0
  predictions := Vector.replicate 2 none
  waiting := []
  service := none
  failSerial := 0
  passDue := false

/-- R99: the format capture items after reset. -/
def FormatCapture.reset : FormatCapture where
  start := none
  phase := none
  entries := []
  overflow := false
  owner := none
  received := 0
  remainder := none
  firstByte := none
  uniform := true

/-- R79: the Write Capture Unit after reset. -/
def Wcu.reset : Wcu where
  window := none
  ejectHoldDue := none
  capture := .idle
  progress := none
  cells := []
  aligned := 0
  markPos := none
  slot := none
  sector := none
  fieldBytes := []
  remainder := none
  period := none
  locked := false
  run := 0
  refEdge := none
  fmt := FormatCapture.reset
  pending := none

/-- R140: the Card Port after reset, with both of its input pins negated (log entry 6). -/
def CardPort.reset : CardPort where
  cdet := false
  clsw := false
  state := .absent
  detectFrom := none
  startFrom := none
  exchange := none
  power := false
  capacity := none
  lock := false
  requests := []
  transaction := none
  scratch := none

/-- R164: the Management Link after reset. -/
def Link.reset : Link where
  commands := []
  replies := []
  reports := []
  lost := false
  fault := false
  frame := none
  mdo := []

/-- The part right after the hardware reset, with no input asserted (log entry 6). -/
def State.reset : State where
  pending := []
  now := 0
  moment := 0
  choices := 0
  resetPin := false
  pins := 0
  profile := Profile.default
  conflict := .none
  units := Vector.replicate 2 UnitState.reset
  buffers := Vector.replicate 3 Buffer.free
  cache := Cache.reset
  wcu := Wcu.reset
  formats := Vector.replicate 4 none
  slots := Vector.replicate 8 .vacant
  eject := none
  card := CardPort.reset
  link := Link.reset
  executing := none

end Sys2Proof.Machine
end

