-- ==== Sys2Proof/Machine/Ops.lean ====
section
/-! DEFINITION. The named operations over the parts of the state: units, buffers, time, reports, replies
and the arbiter's request list. -/

namespace Sys2Proof.Machine

/-- Both units, unit 0 first. -/
def driveIds : List DriveId := [0, 1]

/-- The three buffers, lowest-numbered first. -/
def bufferIds : List BufferId := [0, 1, 2]

/-- The eight slots, lowest-numbered first. -/
def slotIds : List SlotId := [0, 1, 2, 3, 4, 5, 6, 7]

/-! ### Units and buffers -/

/-- What the part holds for unit `u`. -/
def State.unit (s : State) (u : DriveId) : UnitState := look s.units u

/-- Replaces what the part holds for unit `u`. -/
def State.setUnit (s : State) (u : DriveId) (x : UnitState) : State := { s with units := put s.units u x }

/-- Track buffer `b`. -/
def State.buffer (s : State) (b : BufferId) : Buffer := look s.buffers b

/-- Replaces track buffer `b`. -/
def State.setBuffer (s : State) (b : BufferId) (x : Buffer) : State := { s with buffers := put s.buffers b x }

/-- Slot `n` of the slot table. -/
def State.slot (s : State) (n : SlotId) : Slot := look s.slots n

/-- Replaces slot `n`. -/
def State.setSlot (s : State) (n : SlotId) (x : Slot) : State := { s with slots := put s.slots n x }

/-- What a slot describes, unless it is VACANT (R9). -/
def Slot.data : Slot → Option SlotData
  | .vacant => none
  | .loaded d => some d
  | .mounted d => some d

/-- The image mounted on unit `u` (R127). -/
def State.image (s : State) (u : DriveId) : Option SlotData :=
  match (s.unit u).mounted with
  | none => none
  | some n => (s.slot n).data

/-- The format of the image mounted on unit `u`. -/
def State.format (s : State) (u : DriveId) : Option Format :=
  match s.image u with
  | none => none
  | some d => look s.formats d.format

/-! ### Time -/

/-- One more command has been taken: the moment number goes up by one (log entry 25). -/
def State.taken (s : State) : State := { s with moment := s.moment + 1 }

/-- The moment `ms` milliseconds from now. -/
def State.after (s : State) (ms : Nat) : Nat := s.now + ms * Config.ticksPerMs

/-! ### Reports and replies -/

/-- A report was dropped while a FETCH REPORTS frame had its count fixed (R162). -/
def Frame.noteDrop : Frame → Frame
  | .reports (some c) n _ => .reports (some c) n true
  | f => f

/-- R161: a report joins the report queue, or is dropped with REPORTS_LOST set while the queue holds 16. -/
def State.report (s : State) (r : Report) : State :=
  if s.link.reports.length < Config.reportQueueSize then
    { s with link := { s.link with reports := s.link.reports ++ [r] } }
  else
    { s with link := { s.link with lost := true, frame := s.link.frame.map Frame.noteDrop } }

/-- A report of the whole part: every field but the kind and the detail is 0xFF. -/
def Report.bare (k : ReportKind) (detail : Nat) : Report := ⟨k, none, none, none, none, detail⟩

/-- A report about a track, with a sector or 0xFF. -/
def Report.onKey (k : ReportKind) (key : Key) (sector : Option Nat) (detail : Nat) : Report :=
  ⟨k, some key.unit, some key.cylinder, some key.head, sector, detail⟩

/-- R160, R165: the executing command ends, with its reply at the back of the reply queue. -/
def State.endCommand (s : State) (r : ResultCode) (payload : List Byte) : State :=
  match s.executing with
  | none => s
  | some e =>
    { s with
      executing := none
      link := { s.link with replies := s.link.replies ++ [⟨e.code, e.tag, r, payload⟩] } }

/-- A reply whose payload is a detail of two bytes (R160). -/
def State.endDetail (s : State) (r : ResultCode) (a b : Nat) : State :=
  s.endCommand r [BitVec.ofNat 8 a, BitVec.ofNat 8 b]

/-- A BAD_PARAM reply with its field code and item number (R6). -/
def State.endBadParam (s : State) (field item : Nat) : State := s.endDetail .badParam field item

/-! ### The arbiter's request list (R148) -/

/-- A request is posted, with the present moment as its age. -/
def State.post (s : State) (kind : TransKind) (block : Nat) (q : Requester) (cls : Nat)
    (range : Option (Nat × Nat)) : State :=
  { s with card := { s.card with requests := s.card.requests ++ [⟨kind, block, q, cls, s.moment, range⟩] } }

/-- The waiting request of a requester. -/
def State.waitingRequest (s : State) (q : Requester) : Option Request :=
  s.card.requests.find? (fun r => r.requester = q)

/-- The waiting request of a requester, if any, is withdrawn. -/
def State.withdraw (s : State) (q : Requester) : State :=
  { s with card := { s.card with requests := s.card.requests.filter (fun r => r.requester ≠ q) } }

/-- R46, R53: the waiting request of a requester, if any, is withdrawn and posted again at another class. -/
def State.repost (s : State) (q : Requester) (cls : Nat) : State :=
  match s.waitingRequest q with
  | none => s
  | some r => (s.withdraw q).post r.kind r.block q cls r.range

/-- The requester of the transaction in flight. -/
def State.inFlight (s : State) : Option Requester := s.card.transaction.map Transaction.requester

/-! ### Counts -/

/-- The sectors of a buffer whose dirty flag is set. -/
def Buffer.dirtyCount (b : Buffer) : Nat := (b.entries.filter Entry.dirty).length

/-- Whether a buffer's key names unit `u`. -/
def Buffer.ofUnit (b : Buffer) (u : DriveId) : Bool :=
  match b.key with
  | none => false
  | some k => k.unit = u

/-- The sectors of unit `u` whose dirty flag is set, across its buffers (R62, R134, R139). -/
def State.dirtyCount (s : State) (u : DriveId) : Nat :=
  (bufferIds.map fun b => if (s.buffer b).ofUnit u then (s.buffer b).dirtyCount else 0).sum

end Sys2Proof.Machine
end

