-- ==== Sys2Proof/Machine/Geometry.lean ====
section
/-! DEFINITION. The arithmetic of formats, tracks and images: R4, R16 to R28. -/

namespace Sys2Proof.Machine

/-! ### The values that the encoding fixes (R4, R22, R23) -/

/-- The sector size D = 128 × 2^N (R2). -/
def Format.size (f : Format) : Nat := 128 * 2 ^ f.sizeCode

/-- The gap fill byte. -/
def Format.gap (f : Format) : Byte :=
  match f.enc with
  | .mfm => 0x4E
  | .fm => 0xFF

/-- Bytes of a sync run. -/
def Format.sync (f : Format) : Nat :=
  match f.enc with
  | .mfm => 12
  | .fm => 6

/-- Bytes of a mark. -/
def Format.mark (f : Format) : Nat :=
  match f.enc with
  | .mfm => 4
  | .fm => 1

/-- G2. -/
def Format.idGap (f : Format) : Nat :=
  match f.enc with
  | .mfm => 22
  | .fm => 11

/-- Fixed overhead of one sector block, G3 and data excluded (R4). -/
def Format.overhead (f : Format) : Nat :=
  match f.enc with
  | .mfm => 62
  | .fm => 33

/-- B, the bytes of one sector block (R4). -/
def Format.blockLen (f : Format) : Nat := f.overhead + f.size + f.sectorGap

/-- P, the bytes before the first sector block (R4). -/
def Format.prefixLen (f : Format) : Nat :=
  if f.indexMark then f.leadGap + (f.sync + f.mark) + f.markGap else f.leadGap

/-- L, the bits of a revolution (R19). -/
def Format.revolution (f : Format) : Nat := f.rate * 1000 * 60 / f.spin

/-- The whole bytes of a revolution (R19). -/
def Format.trackBytes (f : Format) : Nat := f.revolution / 8

/-- The bytes of the content of a track (R24). -/
def Format.content (f : Format) : Nat := f.prefixLen + f.sectors * f.blockLen

/-- The number of positions of the index region, R / 500 with R in bit/s (R21). -/
def Format.indexBits (f : Format) : Nat := f.rate * 1000 / 500

/-- The tick, counted from the start of the rotation, at which bit `j` begins (R20). -/
def Format.bitTick (f : Format) (j : Nat) : Nat := j * 16000000 / (f.rate * 1000)

/-- The last bit to have begun when `d` ticks have passed since the rotation started (R20). -/
def Format.bitBegun (f : Format) (d : Nat) : Nat := ((d + 1) * (f.rate * 1000) - 1) / 16000000

/-- The tick, counted from the start of the rotation, at which half-cell `i` begins (R74). -/
def Format.cellTick (f : Format) (i : Nat) : Nat := i * 8000000 / (f.rate * 1000)

/-- Offset in a sector block of its ID field's first byte. -/
def Format.idOffset (f : Format) : Nat := f.sync + f.mark

/-- Offset in a sector block of the sync run before its data mark. -/
def Format.dataSyncOffset (f : Format) : Nat := f.idOffset + 6 + f.idGap

/-- Offset in a sector block of its data mark. -/
def Format.dataMarkOffset (f : Format) : Nat := f.dataSyncOffset + f.sync

/-- Offset in a sector block of its first data byte. -/
def Format.dataOffset (f : Format) : Nat := f.dataMarkOffset + f.mark

/-- E_k, the expected position of the data mark of physical slot `k` (R28). -/
def Format.expected (f : Format) (k : Nat) : Nat := 8 * (f.prefixLen + k * f.blockLen + f.dataMarkOffset)

/-! ### Slot order (R25 to R27) -/

/-- R26: the first slot at or after `p`, going round, that holds no sector. -/
def freeSlot (placed : List (Option Nat)) (sectors : Nat) : Nat → Nat → Nat
  | 0, p => p
  | fuel + 1, p =>
    match placed[p]? with
    | some (some _) => freeSlot placed sectors fuel ((p + 1) % sectors)
    | _ => p

/-- R26: places the logical sectors from `j` on, `left` of them, with the pointer at `p`. -/
def placeSectors (f : Format) : Nat → Nat → Nat → List (Option Nat) → List (Option Nat)
  | 0, _, _, placed => placed
  | left + 1, j, p, placed =>
    let q := freeSlot placed f.sectors f.sectors p
    placeSectors f left (j + 1) ((q + f.interleave) % f.sectors) (placed.set q (some (f.first + j)))

/-- The arrangement of a head: from a list (R25) or from the interleave (R26). -/
def Format.arrangement (f : Format) (head : Nat) : List Nat :=
  match f.lists with
  | [] => (placeSectors f f.sectors 0 0 (List.replicate f.sectors none)).map (fun o => o.getD 0)
  | [l] => l
  | l :: m :: _ => if head = 0 then l else m

/-- R27: the slot order of a key: the arrangement, rotated by the cylinder. The sector of physical slot
`k` is that of slot `k − c × K` of the arrangement, modulo S. -/
def Format.slotOrder (f : Format) (cylinder head : Nat) : List Nat :=
  let a := f.arrangement head
  let r := cylinder * f.skew % f.sectors
  (List.range f.sectors).map fun k => a.getD ((k + (f.sectors - r)) % f.sectors) 0

/-! ### Image arithmetic (R16 to R18) -/

/-- Whether a track is inside the image (R16). -/
def Format.inside (f : Format) (cylinder head : Nat) : Bool := cylinder < f.cylinders && head < f.sides

/-- The bytes of a track's span. -/
def Format.spanLen (f : Format) : Nat := f.sectors * f.size

/-- T, the image byte at which the span of a track begins (R16). -/
def spanStart (f : Format) (d : SlotData) (cylinder head : Nat) : Nat :=
  d.offset + (cylinder * f.sides + head) * f.spanLen

/-- The required block count of an image (R13). -/
def requiredBlocks (f : Format) (offset : Nat) : Nat :=
  (offset + f.cylinders * f.sides * f.spanLen + (Config.blockBytes - 1)) / Config.blockBytes

/-- R18: the card block of image block `b`, walking the extent list. -/
def cardBlockIn : List Extent → Nat → Option Nat
  | [], _ => none
  | e :: rest, b => if b < e.count then some (e.start + b) else cardBlockIn rest (b - e.count)

/-- R18: the image block at which card block `c` lies in the extent list, with `cum` blocks before it. -/
def imageBlockIn : List Extent → Nat → Nat → Option Nat
  | [], _, _ => none
  | e :: rest, cum, c =>
    if e.start ≤ c ∧ c < e.start + e.count then some (cum + (c - e.start))
    else imageBlockIn rest (cum + e.count) c

/-- Whether a card block lies in a slot (R18). -/
def SlotData.hasBlock (d : SlotData) (c : Nat) : Bool := d.extents.any fun e => e.start ≤ c && c < e.start + e.count

/-- Whether two extents have a card block in common (R13). -/
def Extent.overlaps (a b : Extent) : Bool := a.start < b.start + b.count && b.start < a.start + a.count

/-- Whether two slots share a card block (R18). -/
def SlotData.shares (d e : SlotData) : Bool := d.extents.any fun a => e.extents.any fun b => a.overlaps b

/-- A track's place in its image: the first byte of the span, its length, and the sector layout. -/
structure Span where
  start : Nat
  length : Nat
  size : Nat
  first : Nat
  extents : List Extent

/-- The span of a key on the image mounted on its unit. -/
def State.span (s : State) (k : Key) : Option Span :=
  match s.image k.unit with
  | none => none
  | some d =>
    match look s.formats d.format with
    | none => none
    | some f => some ⟨spanStart f d k.cylinder k.head, f.spanLen, f.size, f.first, d.extents⟩

/-- The first image block of a span (R17). -/
def Span.firstBlock (p : Span) : Nat := p.start / Config.blockBytes

/-- The last image block of a span (R17). -/
def Span.lastBlock (p : Span) : Nat := (p.start + p.length - 1) / Config.blockBytes

/-- The offsets lo..hi − 1 of an image block that lie in the span (R17). -/
def Span.range (p : Span) (b : Nat) : Nat × Nat :=
  (max p.start (Config.blockBytes * b) - Config.blockBytes * b,
   min (p.start + p.length) (Config.blockBytes * b + Config.blockBytes) - Config.blockBytes * b)

/-- An interior block lies wholly in the span; any other block of the span is an edge block (R17). -/
def Span.interior (p : Span) (b : Nat) : Bool := p.range b = (0, Config.blockBytes)

/-- The image byte at which a sector begins (R16). -/
def Span.sectorStart (p : Span) (sector : Nat) : Nat := p.start + (sector - p.first) * p.size

/-- The first image block of a sector (R17). -/
def Span.sectorFirst (p : Span) (sector : Nat) : Nat := p.sectorStart sector / Config.blockBytes

/-- The last image block of a sector (R17). -/
def Span.sectorLast (p : Span) (sector : Nat) : Nat := (p.sectorStart sector + p.size - 1) / Config.blockBytes

/-- Whether an image block holds any byte of a sector. -/
def Span.touches (p : Span) (sector b : Nat) : Bool := p.sectorFirst sector ≤ b && b ≤ p.sectorLast sector

/-- The card block of an image block of the span (R18). LOAD_SLOT has made sure that there is one. -/
def Span.cardBlock (p : Span) (b : Nat) : Nat := (cardBlockIn p.extents b).getD 0

/-- R47: the bytes of a block read from the card are copied to the sectors that own them. -/
def Span.copyIn (p : Span) (b : Nat) (block : List Byte) (es : List Entry) : List Entry :=
  es.map fun e =>
    { e with data := e.data.mapIdx fun i x =>
        let a := p.sectorStart e.number + i
        if a / Config.blockBytes = b then block.getD (a % Config.blockBytes) 0 else x }

/-- R54, R147: a block's bytes with those that lie in the span taken from the sectors that own them. -/
def Span.copyOut (p : Span) (b : Nat) (es : List Entry) (block : List Byte) : List Byte :=
  (List.range Config.blockBytes).map fun o =>
    let a := Config.blockBytes * b + o
    if p.start ≤ a ∧ a < p.start + p.length then
      match es.find? (fun e => e.number = p.first + (a - p.start) / p.size) with
      | some e => e.data.getD ((a - p.start) % p.size) 0
      | none => block.getD o 0
    else block.getD o 0

/-- The lowest image block at or above `from_` that holds a byte of a dirty sector (R53, R54). -/
def Span.dirtyBlock (p : Span) (from_ : Nat) (es : List Entry) : Option Nat :=
  (es.filterMap fun e =>
    if e.dirty && from_ ≤ p.sectorLast e.number then some (max from_ (p.sectorFirst e.number)) else none).min?

end Sys2Proof.Machine
end

