-- ==== Sys2Proof/Machine/Flags.lean ====
section
/-! DEFINITION. What follows at every moment from the state: internal inputs, selection, keys, demand,
read stream mode, the outputs of the drive port, the status byte and ATTN. -/

namespace Sys2Proof.Machine

/-! ### Internal inputs and selection (R108, R111) -/

/-- The item number of an internal input (R124). -/
def Input.item : Input → Fin 9
  | .sel0 => 0
  | .sel1 => 1
  | .motor0 => 2
  | .motor1 => 3
  | .step => 4
  | .dir => 5
  | .side => 6
  | .wgate => 7
  | .wdata => 8

/-- The select input of a unit. -/
def selectInput (u : DriveId) : Input := if u = 0 then .sel0 else .sel1

/-- The motor input of a unit. -/
def motorInput (u : DriveId) : Input := if u = 0 then .motor0 else .motor1

/-- The pin of an internal input; none while it is tied inactive. -/
def State.pinOf (s : State) (i : Input) : Option InPin := look s.profile.inputs i.item

/-- The level of an internal input: that of its pin, and negated while tied inactive (R108). -/
def State.level (s : State) (i : Input) : Bool :=
  match s.pinOf i with
  | none => false
  | some p => s.pins.getLsbD p.val

/-- Whether a unit is enabled (R111). -/
def State.enabled (s : State) (u : DriveId) : Bool := look s.profile.enables u

/-- R111: a unit is selected while it is enabled and its select input is asserted. -/
def State.selected (s : State) (u : DriveId) : Bool := s.enabled u && s.level (selectInput u)

/-- The only selected unit (R80, R122). -/
def State.onlySelected (s : State) : Option DriveId :=
  if s.selected 0 && !s.selected 1 then some 0
  else if s.selected 1 && !s.selected 0 then some 1
  else none

/-- The input that carries a unit's motor signal (R108, R117). -/
def State.motorSource (s : State) (u : DriveId) : Input :=
  if look s.profile.follows u then selectInput u else motorInput u

/-- Whether the motor of a unit is to run: it is enabled and its motor signal is asserted (R116). -/
def State.motorOn (s : State) (u : DriveId) : Bool := s.enabled u && s.level (s.motorSource u)

/-- The head of both units: the level of SIDE (R115). -/
def State.head (s : State) : Nat := if s.level .side then 1 else 0

/-! ### Keys, demand and residence (R33, R39, R41) -/

/-- The key of a unit: its cylinder position and the SIDE level (R33). -/
def State.key (s : State) (u : DriveId) : Key := ⟨u, (s.unit u).cylinder, s.head⟩

/-- Whether a key lies inside the image of its unit (R16). -/
def State.keyInside (s : State) (k : Key) : Bool :=
  match s.format k.unit with
  | none => false
  | some f => f.inside k.cylinder k.head

/-- R41: the demand key of a unit. -/
def State.demand (s : State) (u : DriveId) : Option Key :=
  if (s.unit u).media = .ready ∧ (s.unit u).motor ≠ .stopped ∧ s.keyInside (s.key u) = true then some (s.key u)
  else none

/-- R42: the key a unit needs: its demand key, while its motor is AT_SPEED and no settle runs. -/
def State.needs (s : State) (u : DriveId) : Option Key :=
  if (s.unit u).motor = .atSpeed ∧ (s.unit u).settleDue = none then s.demand u else none

/-- R39: the resident states. -/
def BufState.resident : BufState → Bool
  | .valid => true
  | .dirty => true
  | .flushing => true
  | .unsaved => true
  | .free => false
  | .filling => false
  | .unreadable => false

/-- Whether a buffer holds a key. A fill that has been taken or stopped holds it no more (R45, R61; log
entry 14). -/
def Buffer.holds (b : Buffer) (k : Key) : Bool := b.state ≠ .free && b.key = some k && b.fate = .kept

/-- The buffer that holds a key (R43). -/
def State.holder (s : State) (k : Key) : Option BufferId := bufferIds.find? fun b => (s.buffer b).holds k

/-- R41: a buffer is current while it holds the demand key of some unit. -/
def State.current (s : State) (b : BufferId) : Bool :=
  driveIds.any fun u =>
    match s.demand u with
    | none => false
    | some k => (s.buffer b).holds k

/-- R56, R57: whether the buffer that holds a key is resident. -/
def State.resident (s : State) (k : Key) : Bool :=
  match s.holder k with
  | none => false
  | some b => (s.buffer b).state.resident

/-! ### Rotation (R29, R20) and read stream mode (R66) -/

/-- R29: the angular position of a unit advances. -/
def State.rotating (s : State) (u : DriveId) : Bool := (s.unit u).motor = .atSpeed && (s.unit u).media ≠ .empty

/-- R20: the angular position of a unit. -/
def State.position (s : State) (u : DriveId) : Nat :=
  match s.format u with
  | none => 0
  | some f => (s.unit u).bitCount % f.revolution

/-- Whether a write window of the unit is open. -/
def State.windowOf (s : State) (u : DriveId) : Bool :=
  match s.wcu.window with
  | none => false
  | some w => w.key.unit = u

/-- R66: the read stream mode that the conditions of a unit give. -/
def State.modeOf (s : State) (u : DriveId) : StreamMode :=
  if (s.unit u).media ≠ .ready then .quiet
  else if (s.unit u).motor ≠ .atSpeed then .quiet
  else if (s.unit u).settleDue ≠ none then .quiet
  else if s.windowOf u then .quiet
  else if s.keyInside (s.key u) = false then .quiet
  else if s.resident (s.key u) then .track
  else .filler

/-! ### Write protection (R80, R138) -/

/-- Whether the protect flag of the slot mounted on a unit is on. -/
def State.slotProtected (s : State) (u : DriveId) : Bool :=
  match s.image u with
  | none => false
  | some d => d.prot

/-! ### Outputs (R120, R121, R109) -/

/-- R74: the read stream of a unit asserts: 4 ticks from the start of a half-cell of 1. A pulse begun
before the stream fell silent runs to its end (R67). -/
def State.streamAsserts (s : State) (u : DriveId) : Bool :=
  let x := s.unit u
  match s.format u with
  | none => s.now < x.pulseEnd
  | some f =>
    let clockAt := x.rotationStart + f.cellTick (2 * x.bitCount)
    let dataAt := x.rotationStart + f.cellTick (2 * x.bitCount + 1)
    (x.clockCell && clockAt ≤ s.now && s.now < clockAt + Config.pulseTicks) ||
      (x.dataCell && dataAt ≤ s.now && s.now < dataAt + Config.pulseTicks) ||
      s.now < x.pulseEnd

/-- R21: the angular position of a unit lies in the index region. -/
def State.inIndexRegion (s : State) (u : DriveId) : Bool :=
  match s.format u with
  | none => false
  | some f => s.position u < f.indexBits

/-- R120: the level of a source for a unit. -/
def State.source (s : State) (u : DriveId) : Source → Bool
  | .index => (s.unit u).media = .ready && (s.unit u).motor = .atSpeed && s.inIndexRegion u
  | .track0 => (s.unit u).cylinder = 0
  | .wprot => (s.unit u).media ≠ .ready || s.slotProtected u || s.card.lock
  | .rdata => s.streamAsserts u
  | .ready =>
    match s.profile.readyMode with
    | .mediaOnly => (s.unit u).media = .ready
    | .mediaAndSpeed => (s.unit u).media = .ready && (s.unit u).motor = .atSpeed
  | .dchg => (s.unit u).latch
  | .density =>
    (s.unit u).media = .ready &&
      (match s.format u with
       | none => false
       | some f => f.rate = 500)
  | .asserted => true
  | .negated => false

/-- R109, R121: the level that the crossbar gives an output pin. -/
def State.crossbar (s : State) (p : OutPin) : Bool :=
  match look s.profile.outputs p with
  | .asserted => true
  | .negated => false
  | src => (s.selected 0 && s.source 0 src) || (s.selected 1 && s.source 1 src)

/-- R109, R126: the level of an output pin, negated while the hardware reset is asserted. -/
def State.output (s : State) (p : OutPin) : Bool := !s.resetPin && s.crossbar p

/-! ### Status byte and ATTN (R156, R163) -/

/-- One bit of a byte. -/
def bitAt (n : Nat) (b : Bool) : Nat := if b then 2 ^ n else 0

/-- R156: the status byte. -/
def State.statusByte (s : State) : Byte :=
  BitVec.ofNat 8
    ((Config.commandQueueSize - s.link.commands.length)
      + bitAt 2 (!s.link.replies.isEmpty)
      + bitAt 3 (!s.link.reports.isEmpty)
      + bitAt 4 s.link.lost
      + bitAt 5 s.link.fault
      + bitAt 6 (s.card.state = .ready)
      + bitAt 7 s.executing.isSome)

/-- R163, R164: the attention output, negated while the hardware reset is asserted. -/
def State.attn (s : State) : Bool :=
  !s.resetPin && (!s.link.replies.isEmpty || !s.link.reports.isEmpty || s.link.lost || s.link.fault)

/-- R155, R164: whether the part drives MDO: while MSEL is asserted, but for the hardware reset. -/
def State.mdoDriven (s : State) : Bool := !s.resetPin && s.link.frame.isSome

/-- R79: the separator lock that QUERY_UNIT reports for a unit. -/
def State.lockOf (s : State) (u : DriveId) : Bool := s.windowOf u && s.wcu.locked

/-- R154, R179: RESET is executing and has not taken effect. -/
def State.resetWaits (s : State) : Bool :=
  match s.executing with
  | none => false
  | some e => e.code = 0x0C

/-- R159, R165: the front command may start. -/
def State.startDue (s : State) : Bool :=
  s.executing.isNone && !s.link.commands.isEmpty && s.link.replies.length < Config.replyQueueSize

end Sys2Proof.Machine
end

