-- ==== Sys2Proof/Machine/Operands.lean ====
section
/-! DEFINITION. The parameter blocks of the commands, read field by field (R166, R171 to R182), the codes
that stand for values on the link, and the check value of R70. -/

namespace Sys2Proof.Machine

/-! ### Byte order -/

/-- Byte `i` of a parameter block, as a number. -/
def byteAt (ps : List Byte) (i : Nat) : Nat := (ps.getD i 0).toNat

/-- Two bytes, low byte first (R166). -/
def wordAt (ps : List Byte) (i : Nat) : Nat := byteAt ps i + 256 * byteAt ps (i + 1)

/-- Four bytes, lowest byte first (R166). -/
def longAt (ps : List Byte) (i : Nat) : Nat := wordAt ps i + 65536 * wordAt ps (i + 2)

/-- A number as a byte. -/
def byteOf (n : Nat) : Byte := BitVec.ofNat 8 n

/-- A number as two bytes, low byte first. -/
def wordBytes (n : Nat) : List Byte := [byteOf n, byteOf (n / 256)]

/-- A number as four bytes, lowest byte first. -/
def longBytes (n : Nat) : List Byte := wordBytes n ++ wordBytes (n / 65536)

/-- A flag as a byte. -/
def flagByte (b : Bool) : Byte := if b then 1 else 0

/-! ### The check value (R70) -/

/-- One bit is taken into the remainder: the generator is x^16 + x^12 + x^5 + 1. -/
def crcBit (r : Word16) (b : Bool) : Word16 :=
  let up := r <<< 1
  if (r.getLsbD 15) != b then up ^^^ 0x1021#16 else up

/-- One byte is taken into the remainder, most significant bit first. -/
def crcByte (r : Word16) (x : Byte) : Word16 := [7, 6, 5, 4, 3, 2, 1, 0].foldl (fun r i => crcBit r (x.getLsbD i)) r

/-- The remainder over some bytes from a preset. -/
def crc (preset : Word16) (xs : List Byte) : Word16 := xs.foldl crcByte preset

/-- A check value as two bytes, high byte first (R70). -/
def crcBytes (r : Word16) : List Byte := [byteOf (r.toNat / 256), byteOf r.toNat]

/-- The remainder from which the mark byte is taken: after the three A1 bytes in MFM, the preset in FM. -/
def Encoding.markPreset : Encoding → Word16
  | .mfm => 0xCDB4
  | .fm => 0xFFFF

/-- R145: the transfer check of a card block. -/
def transferCheck (block : List Byte) : Word16 := crc 0 block

/-! ### Values on the link -/

/-- R160. -/
def ResultCode.byte : ResultCode → Byte
  | .ok => 0x00
  | .stale => 0x01
  | .badCommand => 0x02
  | .badParam => 0x03
  | .noCard => 0x04
  | .cardError => 0x05
  | .slotBusy => 0x06
  | .unitBusy => 0x07
  | .noMedia => 0x08
  | .refused => 0x09
  | .writeLocked => 0x0A

/-- R145. -/
def Result.code : Result → Nat
  | .ok => 0
  | .noResponse => 1
  | .dataCheck => 2
  | .writeRejected => 3
  | .busyTimeout => 4
  | .cardGone => 5

/-- R161. -/
def ReportKind.byte : ReportKind → Byte
  | .cardReady => 0x01
  | .cardRemoved => 0x02
  | .cardFailed => 0x03
  | .mediaInserted => 0x04
  | .mediaEjected => 0x05
  | .ejectRefused => 0x06
  | .dataDiscarded => 0x07
  | .trackMiss => 0x08
  | .fillFailed => 0x09
  | .flushFailed => 0x0A
  | .unsavedTrack => 0x0B
  | .writeStray => 0x0C
  | .writeFieldBad => 0x0D
  | .writeLost => 0x0E
  | .writeProtected => 0x0F
  | .formatAccepted => 0x10
  | .formatRejected => 0x11
  | .selectConflict => 0x12

/-- A field of a report: 0xFF where it is none. -/
def fieldByte (o : Option Nat) : Byte :=
  match o with
  | none => 0xFF
  | some n => byteOf n

/-- R161: the seven bytes of a report. -/
def Report.bytes (r : Report) : List Byte :=
  [r.kind.byte, fieldByte (r.unit.map Fin.val), fieldByte r.cylinder, fieldByte r.head, fieldByte r.sector]
    ++ wordBytes r.detail

/-- R160: the bytes of a reply. -/
def Reply.bytes (r : Reply) : List Byte :=
  [r.code, r.tag, r.result.byte] ++ wordBytes r.payload.length ++ r.payload

/-- R168. -/
def CardState.byte : CardState → Byte
  | .absent => 0
  | .starting => 1
  | .ready => 2
  | .failed => 3

/-- R177. -/
def BufState.byte : BufState → Byte
  | .free => 0
  | .filling => 1
  | .valid => 2
  | .dirty => 3
  | .flushing => 4
  | .unreadable => 5
  | .unsaved => 6

/-- R178. -/
def Media.byte : Media → Byte
  | .empty => 0
  | .ready => 1
  | .ejecting => 2

/-- R178. -/
def Motor.byte : Motor → Byte
  | .stopped => 0
  | .spinningUp => 1
  | .atSpeed => 2

/-- R178. -/
def StreamMode.byte : StreamMode → Byte
  | .quiet => 0
  | .filler => 1
  | .track => 2

/-! ### Small parameter fields -/

/-- A unit number, or none when it is over 1. -/
def driveOf (n : Nat) : Option DriveId := if h : n < 2 then some ⟨n, h⟩ else none

/-- A slot number, or none when it is over 7. -/
def slotIdOf (n : Nat) : Option SlotId := if h : n < 8 then some ⟨n, h⟩ else none

/-- A descriptor index, or none when it is over 3. -/
def formatIdOf (n : Nat) : Option FormatId := if h : n < 4 then some ⟨n, h⟩ else none

/-- A flag of a parameter block, or none when it is neither 0 nor 1. -/
def flagOf (n : Nat) : Option Bool := if n = 0 then some false else if n = 1 then some true else none

/-- An eject mode (R172). -/
def ejectModeOf (n : Nat) : Option EjectMode := if n = 0 then some .normal else if n = 1 then some .force else none

/-- The scope of FLUSH (R173). -/
def scopeOf (n : Nat) : Option (List DriveId) :=
  if n = 0 then some [0] else if n = 1 then some [1] else if n = 2 then some [0, 1] else none

/-! ### DEFINE_FORMAT (R171, R6 to R8) -/

/-- The parameter length that DEFINE_FORMAT must have, from the counts as received (R6). -/
def defineFormatLength (ps : List Byte) : Nat := 18 + byteAt ps 17 * byteAt ps 8

/-- The order lists as received. -/
def orderLists (ps : List Byte) : List (List Nat) :=
  (List.range (byteAt ps 17)).map fun l =>
    (List.range (byteAt ps 8)).map fun k => byteAt ps (18 + l * byteAt ps 8 + k)

/-- The descriptor that the parameters spell, its fields as received (R171). -/
def formatOf (ps : List Byte) : Format where
  enc := if byteAt ps 1 = 1 then .mfm else .fm
  rate := wordAt ps 2
  spin := wordAt ps 4
  cylinders := byteAt ps 6
  sides := byteAt ps 7
  sectors := byteAt ps 8
  sizeCode := byteAt ps 9
  first := byteAt ps 10
  interleave := byteAt ps 11
  skew := byteAt ps 12
  leadGap := byteAt ps 13
  indexMark := byteAt ps 14 = 1
  markGap := byteAt ps 15
  sectorGap := byteAt ps 16
  lists := orderLists ps

/-- R7: an order list that holds each sector number of the track once. -/
def orderListGood (f : Format) (l : List Nat) : Bool :=
  l.all (fun x => f.first ≤ x && x ≤ f.first + f.sectors - 1) && decide l.Nodup

/-- The number of the first order list that fails R7, counting from `n`. -/
def badOrderList (f : Format) : List (List Nat) → Nat → Option Nat
  | [], _ => none
  | l :: rest, n => if orderListGood f l then badOrderList f rest (n + 1) else some n

/-- The checks 3 to 18 of R6, with R7 and R8, in order: the field code and item of the first that fails. -/
def formatProblem (ps : List Byte) : Option (Nat × Nat) :=
  let f := formatOf ps
  if 1 < byteAt ps 1 then some (0x03, 0xFF)
  else if (f.rate ≠ 125 ∧ f.rate ≠ 250 ∧ f.rate ≠ 300 ∧ f.rate ≠ 500) ∨
      (f.enc = .fm ∧ (f.rate = 300 ∨ f.rate = 500)) then some (0x04, 0xFF)
  else if f.spin ≠ 300 ∧ f.spin ≠ 360 then some (0x05, 0xFF)
  else if f.cylinders = 0 ∨ 96 < f.cylinders then some (0x06, 0xFF)
  else if f.sides = 0 ∨ 2 < f.sides then some (0x07, 0xFF)
  else if f.sectors = 0 ∨ 64 < f.sectors then some (0x08, 0xFF)
  else if 3 < f.sizeCode then some (0x09, 0xFF)
  else if 254 < f.first ∨ 254 < f.first + f.sectors - 1 then some (0x0A, 0xFF)
  else if f.interleave = 0 ∨ f.sectors < f.interleave then some (0x0B, 0xFF)
  else if f.sectors - 1 < f.skew then some (0x0C, 0xFF)
  else if 1 < byteAt ps 14 then some (0x0D, 0xFF)
  else if f.sectorGap = 0 then some (0x0E, 0xFF)
  else if 2 < byteAt ps 17 ∨ (byteAt ps 17 = 2 ∧ f.sides = 1) then some (0x0F, 0xFF)
  else
    match badOrderList f f.lists 0 with
    | some n => some (0x10, n)
    | none =>
      if Config.bufferBytes < f.sectors * f.size then some (0x11, 0xFF)
      else if f.trackBytes < f.content then some (0x12, 0xFF)
      else none

/-! ### LOAD_SLOT (R175, R11 to R13) -/

/-- The parameter length that LOAD_SLOT must have, from the extent count as received (R11). -/
def loadSlotLength (ps : List Byte) : Nat := 6 + 8 * byteAt ps 5

/-- The extent list as received (R175). -/
def extentsOf (ps : List Byte) : List Extent :=
  (List.range (byteAt ps 5)).map fun e => ⟨longAt ps (6 + 8 * e), longAt ps (10 + 8 * e)⟩

/-- The number of the first extent that fails a test, counting from `n`. -/
def firstExtent (bad : Extent → Bool) : List Extent → Nat → Option Nat
  | [], _ => none
  | e :: rest, n => if bad e then some n else firstExtent bad rest (n + 1)

/-- R13: the smallest extent number that overlaps an earlier extent. -/
def firstOverlap : List Extent → List Extent → Nat → Option Nat
  | _, [], _ => none
  | before, e :: rest, n =>
    if before.any (fun d => d.overlaps e) then some n else firstOverlap (before ++ [e]) rest (n + 1)

/-- R12 and R13 in order: the field code and item of the first check that fails. -/
def extentProblem (f : Format) (offset capacity : Nat) (es : List Extent) : Option (Nat × Nat) :=
  if es.length = 0 ∨ 16 < es.length then some (0x22, 0xFF)
  else
    match firstExtent (fun e => e.count = 0) es 0 with
    | some n => some (0x23, n)
    | none =>
      match firstExtent (fun e => capacity < e.start + e.count) es 0 with
      | some n => some (0x24, n)
      | none =>
        match firstOverlap [] es 0 with
        | some n => some (0x25, n)
        | none =>
          if (es.map Extent.count).sum < requiredBlocks f offset then some (0x26, 0xFF) else none

/-! ### SET_PROFILE (R180, R123, R124) -/

/-- A number brought to the nearest end of a range. -/
def clamp (lo hi n : Nat) : Nat := max lo (min hi n)

/-- The pin that a parameter byte names: none within for tied inactive, none for no such pin. -/
def pinOfByte (n : Nat) : Option (Option InPin) :=
  if n = 0xFF then some none else if h : n < 9 then some (some ⟨n, h⟩) else none

/-- The source that a parameter byte names. -/
def sourceOfByte (n : Nat) : Option Source :=
  [Source.index, .track0, .wprot, .rdata, .ready, .dchg, .density, .asserted, .negated][n]?

/-- R124, INPUT_MAP: whether internal input `i` may take the pin that byte `n` names. -/
def inputMapGood (i n : Nat) : Bool :=
  match pinOfByte n with
  | none => false
  | some none => i ≠ 0
  | some (some p) => i ≠ 8 || p.val ≤ 1

/-- R124, OUTPUT_MAP: whether output pin `i` may show the source that byte `n` names. -/
def outputMapGood (i n : Nat) : Bool :=
  match sourceOfByte n with
  | none => false
  | some .rdata => i ≤ 1
  | some _ => true

/-- The first item number below `count` whose byte, from `base` on, fails a test. -/
def firstItem (good : Nat → Nat → Bool) (ps : List Byte) (base count : Nat) : Option Nat :=
  (List.range count).find? fun i => !good i (byteAt ps (base + i))

/-- Whether a byte is 0 or 1. -/
def isFlag (_ n : Nat) : Bool := n ≤ 1

/-- The checks of the settings in the order of R124: the field code and item of the first that fails. -/
def profileProblem (ps : List Byte) : Option (Nat × Nat) :=
  match firstItem inputMapGood ps 0 9 with
  | some i => some (0x30, i)
  | none =>
    match firstItem outputMapGood ps 9 6 with
    | some i => some (0x31, i)
    | none =>
      match firstItem isFlag ps 15 2 with
      | some i => some (0x32, i)
      | none =>
        if byteAt ps 17 < 40 ∨ 96 < byteAt ps 17 then some (0x33, 0xFF)
        else if 1 < byteAt ps 21 then some (0x34, 0xFF)
        else
          match firstItem isFlag ps 22 2 with
          | some i => some (0x35, i)
          | none =>
            match firstItem isFlag ps 26 2 with
            | some i => some (0x36, i)
            | none => none

/-- The profile that the parameters spell, its clamped values brought into range (R123, R180). -/
def profileOf (ps : List Byte) : Profile where
  inputs := Vector.ofFn fun i : Fin 9 => (pinOfByte (byteAt ps i.val)).getD none
  outputs := Vector.ofFn fun i : Fin 6 => (sourceOfByte (byteAt ps (9 + i.val))).getD .negated
  enables := Vector.ofFn fun i : Fin 2 => byteAt ps (15 + i.val) = 1
  physical := byteAt ps 17
  spinUp := clamp 0 2000 (wordAt ps 18)
  settle := clamp 0 30 (byteAt ps 20)
  readyMode := if byteAt ps 21 = 1 then .mediaOnly else .mediaAndSpeed
  follows := Vector.ofFn fun i : Fin 2 => byteAt ps (22 + i.val) = 1
  writeBack := clamp 100 60000 (wordAt ps 24)
  flushOnStop := byteAt ps 26 = 1
  prefetch := byteAt ps 27 = 1
  tolerance := clamp 4 64 (byteAt ps 28)

/-- R180: the values as held after clamping. -/
def profilePayload (p : Profile) : List Byte :=
  wordBytes p.spinUp ++ [byteOf p.settle] ++ wordBytes p.writeBack ++ [byteOf p.tolerance]

end Sys2Proof.Machine
end

