-- ==== Sys2Proof/Machine/Cache.lean ====
section
/-! DEFINITION. The Track Cache (chapter 3): allocation, fills, prefetch, flushes, the flush service and
the placing of captures. -/

namespace Sys2Proof.Machine

/-! ### Small updates -/

/-- Changes one buffer by a function. -/
def State.mapBuffer (s : State) (b : BufferId) (g : Buffer → Buffer) : State := s.setBuffer b (g (s.buffer b))

/-- Changes what the cache holds beside the buffers. -/
def State.setCache (s : State) (c : Cache) : State := { s with cache := c }

/-- Sets or clears the prefetch prediction of a unit. -/
def State.setPrediction (s : State) (u : DriveId) (p : Option Prediction) : State :=
  s.setCache { s.cache with predictions := put s.cache.predictions u p }

/-- Sets the pending record (R60). -/
def State.setHeld (s : State) (c : Option Capture) : State := { s with wcu := { s.wcu with pending := c } }

/-- R41: the recency counter goes up by one and the buffer's recency takes its new value. -/
def State.stampBuffer (s : State) (b : BufferId) : State :=
  let n := s.cache.recency + 1
  (s.setCache { s.cache with recency := n }).mapBuffer b fun x => { x with recency := some n }

/-! ### Fills (R43, R45 to R49) -/

/-- R47: the fill of a buffer posts the request for its next image block at its fill class. -/
def State.postFill (s : State) (b : BufferId) : State :=
  match (s.buffer b).key with
  | none => s
  | some k =>
    match s.span k with
    | none => s
    | some p =>
      s.post .readBlock (p.cardBlock (s.buffer b).block) (.fill b) ((s.buffer b).fillClass.getD 5) none

/-- R47, R49: the fill of a buffer starts from the first block of the span. -/
def State.startFill (s : State) (b : BufferId) : State :=
  match (s.buffer b).key with
  | none => s
  | some k =>
    match s.span k with
    | none => s
    | some p => (s.mapBuffer b fun x => { x with block := p.firstBlock }).postFill b

/-- R40: the sector list of a key at allocation: every flag clear, the data undefined (log entry 9). -/
def freshEntries (f : Format) (k : Key) (serial : Nat) : List Entry :=
  (f.slotOrder k.cylinder k.head).map fun n => ⟨n, false, (List.range f.size).map (Config.unfilledByte serial)⟩

/-- R44, R56: the waiting demand fills are to be taken again in this event. -/
def State.oweFillPass (s : State) : State := s.setCache { s.cache with passDue := true }

/-- R43: a buffer is allocated to a key and its fill begins. -/
def State.allocate (s : State) (b : BufferId) (k : Key) (cls : Nat) : State :=
  match s.format k.unit with
  | none => s
  | some f =>
    let s1 := { s with choices := s.choices + 1 }
    let s2 := s1.setBuffer b
      { Buffer.free with
        state := .filling, key := some k, entries := freshEntries f k s.choices, fillClass := some cls }
    (s2.stampBuffer b).startFill b

/-- R46: the class of a fill is changed, and its waiting request posted again. -/
def State.setFillClass (s : State) (b : BufferId) (cls : Nat) : State :=
  (s.mapBuffer b fun x => { x with fillClass := some cls }).repost (.fill b) cls

/-- A buffer becomes FREE (R62). -/
def State.freeBuffer (s : State) (b : BufferId) : State := s.setBuffer b Buffer.free

/-- Whether a fill of a buffer goes on. -/
def Buffer.fills (b : Buffer) : Bool := b.state = .filling && b.fate = .kept

/-! ### Choosing a buffer (R43) -/

/-- The lowest-numbered FREE buffer (R43, step 1). -/
def State.firstFree (s : State) : Option BufferId := bufferIds.find? fun b => (s.buffer b).state = .free

/-- Of two buffers, the one used less recently (R41). -/
def State.older (s : State) (a b : BufferId) : BufferId :=
  if (s.buffer b).recency.getD 0 < (s.buffer a).recency.getD 0 then b else a

/-- The least recently used buffer that passes a test and is not current. -/
def State.leastRecent (s : State) (test : Buffer → Bool) : Option BufferId :=
  match bufferIds.filter fun b => test (s.buffer b) && !s.current b with
  | [] => none
  | b :: rest => some (rest.foldl s.older b)

/-- R43, steps 1 and 2: a buffer that can be given to another key at once. -/
def State.spareBuffer (s : State) : Option BufferId :=
  match s.firstFree with
  | some b => some b
  | none => s.leastRecent fun x => x.state = .valid || x.state = .unreadable

/-- R45: a demand fill takes a buffer FILLING at class 5, at a block boundary. -/
def State.takePrefetch (s : State) (b : BufferId) (u : DriveId) (k : Key) : State :=
  if s.inFlight = some (.fill b) then s.mapBuffer b fun x => { x with fate := .promised u }
  else (s.withdraw (.fill b)).allocate b k 1

/-! ### Flush attempts (R52 to R57) -/

/-- R53, R54: a flush attempt posts the request for an image block at its flush class. -/
def State.postFlush (s : State) (b : BufferId) (p : Span) (blk : Nat) : State :=
  let cls := (s.buffer b).flushClass.getD 4
  let s1 := s.mapBuffer b fun x => { x with block := blk, attempt := { x.attempt with cleared := [] } }
  if p.interior blk then s1.post .writeBlock (p.cardBlock blk) (.flush b) cls none
  else s1.post .merge (p.cardBlock blk) (.flush b) cls (some (p.range blk))

/-- The image block at or above `from_` that a flush attempt of the buffer takes next, with the span. -/
def State.nextFlushBlock (s : State) (b : BufferId) (from_ : Nat) : Option (Span × Nat) :=
  match (s.buffer b).key with
  | none => none
  | some k =>
    match s.span k with
    | none => none
    | some p =>
      match p.dirtyBlock (max from_ p.firstBlock) (s.buffer b).entries with
      | none => none
      | some blk => some (p, blk)

/-- R53: a buffer is sent to flush and the request for its first block is posted. A buffer that has no block
to write stays as it is. -/
def State.sendFlush (s : State) (b : BufferId) (cls : Nat) : State :=
  match s.nextFlushBlock b 0 with
  | none => s
  | some (p, blk) =>
    (s.mapBuffer b fun x => { x with state := .flushing, flushClass := some cls, attempt := Attempt.none }).postFlush b p blk

/-- R53: a flush is raised to class 2. -/
def State.raiseFlush (s : State) (b : BufferId) : State :=
  if (s.buffer b).flushClass = some 2 then s
  else (s.mapBuffer b fun x => { x with flushClass := some 2 }).repost (.flush b) 2

/-- The earlier of two final failures (R173). -/
def earlierFailure (a b : Option (Nat × Result)) : Option (Nat × Result) :=
  match a, b with
  | none, y => y
  | x, none => x
  | some x, some y => if y.1 < x.1 then some y else some x

/-- R58: an attempt that the flush service counts has ended. -/
def Service.attemptEnded (v : Service) (b : BufferId) (failure : Option (Nat × Result)) : Service :=
  if b ∈ v.open_ then
    { v with
      open_ := v.open_.filter (fun c => c ≠ b)
      failed := v.failed || failure.isSome
      failure := earlierFailure v.failure failure }
  else v

/-- R52: the write-back delay of a buffer has passed since its last write. -/
def State.writeBackDue (s : State) (b : BufferId) : Bool :=
  match (s.buffer b).lastWrite with
  | none => false
  | some t => (s.buffer b).state = .dirty && t + s.profile.writeBack * Config.ticksPerMs ≤ s.now

/-- R56: a flush attempt in which every block ended OK. -/
def Buffer.attemptOk (x : Buffer) : Buffer :=
  { x with
    state := if x.entries.any Entry.dirty then .dirty else .valid
    flushFailures := 0, flushClass := none, attempt := Attempt.none }

/-- R56: a failed flush attempt, ended at a moment. -/
def Buffer.attemptFailed (x : Buffer) (now : Nat) : Buffer :=
  { x with
    state := if 2 ≤ x.flushFailures then .unsaved else .dirty
    flushFailures := min 3 (x.flushFailures + 1)
    lastWrite := some now, flushClass := none, attempt := Attempt.none }

/-- R56: the reports of a failed attempt of a buffer that held `x` before it ended. -/
def State.reportAttempt (s : State) (x : Buffer) : State :=
  match x.key with
  | none => s
  | some k =>
    let s1 := s.report (.onKey .flushFailed k none (min 3 (x.flushFailures + 1)))
    if x.flushFailures = 2 then s1.report (.onKey .unsavedTrack k none x.dirtyCount) else s1

/-- R58: the service is told of the end of an attempt. -/
def State.noteAttempt (s : State) (b : BufferId) (failure : Option (Nat × Result)) : State :=
  s.setCache { s.cache with service := s.cache.service.map fun v => v.attemptEnded b failure }

/-- R56: a flush attempt ends, and the waiting demand fills are taken again. A buffer that is DIRTY again with its
delay passed is sent at once (R52). -/
def State.endAttempt (s : State) (b : BufferId) : State :=
  let x := s.buffer b
  match x.attempt.failure with
  | none =>
    let s1 := ((s.setBuffer b x.attemptOk).noteAttempt b none).oweFillPass
    if s1.writeBackDue b then s1.sendFlush b 4 else s1
  | some e => (((s.reportAttempt x).setBuffer b (x.attemptFailed s.now)).noteAttempt b (some e)).oweFillPass

/-- R53: a flush attempt begins; with no block to write it ends at once. -/
def State.beginAttempt (s : State) (b : BufferId) (cls : Nat) : State :=
  match s.nextFlushBlock b 0 with
  | none => (s.mapBuffer b fun x => { x with attempt := Attempt.none }).endAttempt b
  | some _ => s.sendFlush b cls

/-- R54: after a block, the attempt posts the request for its next block, or ends. -/
def State.continueFlush (s : State) (b : BufferId) : State :=
  match s.nextFlushBlock b ((s.buffer b).block + 1) with
  | none => s.endAttempt b
  | some (p, blk) => s.postFlush b p blk

/-- R107: an image block below `n`, which the attempt takes no more, is written by a later attempt for the sake of a
sector that ends below `n`: that sector's flag stays set to the end of this one. -/
def Buffer.rewritten (x : Buffer) (p : Span) (n blk : Nat) : Bool :=
  x.entries.any fun e => e.dirty && p.touches e.number blk && p.sectorLast e.number < n

/-- R107: a sector has a block below those which the attempt still took when an accepted format capture came, and no
other sector has that block written again: the sector's own flag must (log entry 36). -/
def Buffer.formatCut (x : Buffer) (p : Span) (sector : Nat) : Bool :=
  match x.attempt.formatted with
  | none => false
  | some n => (List.range n).any fun blk => p.touches sector blk && !x.rewritten p n blk

/-- R55: whether the take of a block clears the flag of a sector: its last block it is, it has no earlier failed
block, and no block of it would then be left as it was before a format capture (R107). -/
def Buffer.takeClears (x : Buffer) (p : Span) (blk : Nat) (e : Entry) : Bool :=
  e.dirty && p.sectorLast e.number = blk && !x.attempt.failed.contains e.number && !x.formatCut p e.number

/-- R55: the flags at the take of a block. -/
def takeFlags (p : Span) (blk : Nat) (x : Buffer) : Buffer :=
  { x with
    entries := x.entries.map fun e => if x.takeClears p blk e then { e with dirty := false } else e
    attempt :=
      { x.attempt with
        cleared := (x.entries.filter (x.takeClears p blk)).map Entry.number
        lastTake := some blk } }

/-- R55: the flags after the final failure of a block, and its sectors counted as failed. -/
def failFlags (p : Span) (blk serial : Nat) (r : Result) (x : Buffer) : Buffer :=
  { x with
    entries := x.entries.map fun e => if x.attempt.cleared.contains e.number then { e with dirty := true } else e
    attempt :=
      { x.attempt with
        failed := x.attempt.failed ++ (x.entries.filter fun e => p.touches e.number blk).map Entry.number
        cleared := []
        failure := earlierFailure x.attempt.failure (some (serial, r)) } }

/-- R54, R55: the take of the block that a buffer's flush has in hand: the scratch receives the buffer's
bytes over what it holds, and the flags follow. -/
def State.takeBlock (s : State) (b : BufferId) : State :=
  match (s.buffer b).key with
  | none => s
  | some k =>
    match s.span k with
    | none => s
    | some p =>
      let x := s.buffer b
      let bytes := p.copyOut x.block x.entries (s.card.scratch.getD [])
      ({ s with card := { s.card with scratch := some bytes } }).mapBuffer b (takeFlags p x.block)

/-- R55: the final failure of the block that a buffer's flush has in hand. -/
def State.failBlock (s : State) (b : BufferId) (r : Result) : State :=
  match (s.buffer b).key with
  | none => s
  | some k =>
    match s.span k with
    | none => s
    | some p =>
      let n := s.cache.failSerial
      (s.setCache { s.cache with failSerial := n + 1 }).mapBuffer b (failFlags p (s.buffer b).block n r)

/-! ### Captures into the cache (R59, R60) -/

/-- R59: the sector list after a capture. -/
def Capture.onEntries (c : Capture) (es : List Entry) : List Entry :=
  match c.body with
  | .data slot bytes => es.mapIdx fun i e => if i = slot then { e with data := bytes, dirty := true } else e
  | .format fills =>
    es.map fun e =>
      match fills.find? (fun v => v.1 = e.number) with
      | none => { e with dirty := true }
      | some v => { e with data := List.replicate e.data.length v.2, dirty := true }

/-- R54, R107: the lowest image block that a flush attempt still takes: the block in hand up to its take, and then the
block above it. -/
def Buffer.carriesFrom (x : Buffer) : Nat := if x.attempt.lastTake = some x.block then x.block + 1 else x.block

/-- R107: what the attempt in progress notes of a capture: an accepted format capture marks where the attempt stands, and
a data capture nothing (log entry 36). -/
def Buffer.noteCapture (x : Buffer) (c : Capture) : Attempt :=
  match c.body with
  | .data _ _ => x.attempt
  | .format _ => if x.state = .flushing then { x.attempt with formatted := some x.carriesFrom } else x.attempt

/-- R59: a capture is applied to a resident buffer. -/
def State.applyCapture (s : State) (b : BufferId) (c : Capture) : State :=
  s.mapBuffer b fun x =>
    { x with
      entries := c.onEntries x.entries
      lastWrite := some s.now
      state := if x.state = .valid then .dirty else x.state
      attempt := x.noteCapture c }

/-- A WRITE_LOST report for a capture (R59, R60). -/
def State.writeLost (s : State) (c : Capture) (detail : Nat) : State :=
  s.report (.onKey .writeLost c.key c.sector detail)

/-- R60: a capture is sent to the pending record. -/
def State.toPending (s : State) (c : Capture) : State :=
  match s.wcu.pending with
  | none => s.setHeld (some c)
  | some held => ((s.setHeld none).writeLost held 1).writeLost c 1

/-- R59, R97: a completed capture is handed to the Track Cache. -/
def State.handCapture (s : State) (c : Capture) : State :=
  match s.holder c.key with
  | none => if (s.unit c.key.unit).media = .ejecting then s.writeLost c 3 else s.toPending c
  | some b =>
    match (s.buffer b).state with
    | .unreadable => s.writeLost c 4
    | .filling => if (s.unit c.key.unit).media = .ejecting then s.writeLost c 3 else s.toPending c
    | .free => s.toPending c
    | .valid => s.applyCapture b c
    | .dirty => s.applyCapture b c
    | .flushing => s.applyCapture b c
    | .unsaved => s.applyCapture b c

/-- R60: the pending record is discarded when a test on its capture holds. -/
def State.discardPending (s : State) (test : Capture → Bool) (detail : Nat) : State :=
  match s.wcu.pending with
  | none => s
  | some c => if test c then (s.setHeld none).writeLost c detail else s

/-! ### Prefetch predictions (R50, R51) -/

/-- R50: the key that a demand key predicts. -/
def predictedKey (f : Format) (d : Direction) (k : Key) : Option Key :=
  if f.sides = 2 ∧ k.head = 0 then some ⟨k.unit, k.cylinder, 1⟩
  else
    match d with
    | .inward => if k.cylinder + 1 < f.cylinders then some ⟨k.unit, k.cylinder + 1, 0⟩ else none
    | .outward =>
      if k.cylinder = 0 then none
      else if k.cylinder - 1 < f.cylinders then some ⟨k.unit, k.cylinder - 1, 0⟩ else none

/-- R50: a unit's demand key has become resident. -/
def State.predict (s : State) (u : DriveId) : State :=
  match s.demand u, s.format u with
  | some k, some f =>
    if s.profile.prefetch then
      match predictedKey f (s.unit u).lastDir k with
      | none => s.setPrediction u none
      | some pk =>
        if (s.holder pk).isSome then s.setPrediction u none else s.setPrediction u (some ⟨pk, s.moment⟩)
    else s
  | _, _ => s

/-- R51: the prediction of a unit is acted on when its conditions hold. -/
def State.actOnPrediction (s : State) (u : DriveId) : State :=
  match look s.cache.predictions u with
  | none => s
  | some p =>
    if s.cache.waiting = [] ∧ s.holder p.key = none then
      match s.spareBuffer with
      | none => s
      | some b => (s.setPrediction u none).allocate b p.key 5
    else s

/-- R51: held predictions are acted on, the one held longer first. -/
def State.actOnPredictions (s : State) : State :=
  match look s.cache.predictions 0, look s.cache.predictions 1 with
  | some p, some q =>
    if q.formed < p.formed then (s.actOnPrediction 1).actOnPrediction 0
    else (s.actOnPrediction 0).actOnPrediction 1
  | _, _ => (s.actOnPrediction 0).actOnPrediction 1

/-! ### The end of a fill (R47, R48) -/

/-- R47: a fill is complete. The buffer has become VALID, at which the waiting demand fills are taken again (R44), even
when the pending record makes it DIRTY at once. -/
def State.completeFill (s : State) (b : BufferId) (k : Key) : State :=
  let s1 := (s.mapBuffer b fun x =>
    { x with
      state := .valid, fillClass := none, entries := x.entries.map fun e => { e with dirty := false } }).oweFillPass
  let s2 :=
    match s1.wcu.pending with
    | none => s1
    | some c => if c.key = k then (s1.setHeld none).applyCapture b c else s1
  if s2.demand k.unit = some k then s2.predict k.unit else s2

/-- R48: a fill has failed for good. -/
def State.failFill (s : State) (b : BufferId) (k : Key) : State :=
  let s1 := s.mapBuffer b fun x => { x with state := .unreadable, fillClass := none }
  let s2 := s1.report (.onKey .fillFailed k none ((s1.buffer b).fillRetries + 1))
  s2.discardPending (fun c => c.key = k) 4

/-- R47, R48: the result of a fill's block is delivered. -/
def State.fillResult (s : State) (b : BufferId) (r : Result) (block : List Byte) : State :=
  match (s.buffer b).key with
  | none => s
  | some k =>
    match s.span k with
    | none => s
    | some p =>
      if r = .ok then
        let blk := (s.buffer b).block
        let s1 := s.mapBuffer b fun x => { x with entries := p.copyIn blk block x.entries }
        if blk = p.lastBlock then s1.completeFill b k
        else (s1.mapBuffer b fun x => { x with block := blk + 1 }).postFill b
      else s.failFill b k

/-- R45, R61: the transaction of a fill that was given up has ended. -/
def State.givenUpFill (s : State) (b : BufferId) : State :=
  match (s.buffer b).fate with
  | .promised u =>
    match s.demand u with
    | none => s.freeBuffer b
    | some k => s.allocate b k 1
  | _ => s.freeBuffer b

/-- R150: the final result of a fill's block. -/
def State.deliverFill (s : State) (b : BufferId) (r : Result) (block : List Byte) : State :=
  if (s.buffer b).state = .filling then
    if (s.buffer b).fate = .kept then s.fillResult b r block else s.givenUpFill b
  else s

/-- R150: the final result of a flush's block. -/
def State.deliverFlush (s : State) (b : BufferId) (r : Result) : State :=
  if (s.buffer b).state = .flushing then
    (if r = .ok then s else s.failBlock b r).continueFlush b
  else s

/-! ### Demand (R41, R43, R44, R46) -/

/-- R43: a demand fill is taken through the order of steps. The flag says whether it found a buffer. -/
def State.demandFill (s : State) (u : DriveId) (k : Key) : State × Bool :=
  match s.spareBuffer with
  | some b => (s.allocate b k 1, true)
  | none =>
    match s.leastRecent fun x => x.fills && x.fillClass = some 5 with
    | some b => (s.takePrefetch b u k, true)
    | none =>
      match s.leastRecent fun x => x.state = .dirty with
      | some b => (s.beginAttempt b 2, false)
      | none => (s, false)

/-- R44: the waiting demand fill of a unit is taken again. -/
def State.resumeFill (s : State) (u : DriveId) : State :=
  let drop := fun t : State => t.setCache { t.cache with waiting := t.cache.waiting.filter fun v => v ≠ u }
  match s.demand u with
  | none => drop s
  | some k =>
    if (s.holder k).isSome then drop s
    else
      match s.demandFill u k with
      | (t, true) => drop t
      | (t, false) => t

/-- R44: the waiting demand fills are taken again, oldest first. -/
def State.resumeFills (s : State) : State := s.cache.waiting.foldl State.resumeFill s

/-- R44: while a demand fill waits, the class-4 flush of a buffer that is not current is raised. -/
def State.raiseForWaiting (s : State) : State :=
  if s.cache.waiting = [] then s
  else
    bufferIds.foldl
      (fun t b =>
        if (t.buffer b).state = .flushing ∧ (t.buffer b).flushClass = some 4 ∧ t.current b = false then t.raiseFlush b
        else t)
      s

/-- R44, R51, R56: a buffer has become available in an event: it has become FREE, VALID or UNREADABLE, has left
FLUSHING, has stopped being current or has had its fill lowered to class 5. What the states before and after do not
show is noted in `passDue`. -/
def State.available (old s : State) : Bool :=
  s.cache.passDue || bufferIds.any fun b =>
    let x := old.buffer b
    let y := s.buffer b
    (x.state ≠ y.state && (y.state = .free || y.state = .valid || y.state = .unreadable)) ||
      (x.state = .flushing && y.state ≠ .flushing) ||
      (old.current b && !s.current b) ||
      (x.fillClass = some 1 && y.fillClass = some 5)

/-- R45: a promise to a unit lapses. -/
def State.lapsePromise (s : State) (u : DriveId) : State :=
  bufferIds.foldl
    (fun t b => if (t.buffer b).fate = .promised u then t.mapBuffer b (fun x => { x with fate := .dropped }) else t) s

/-- R44, R45, R50, R60: what ends with a unit's demand key, when it changes or ends. -/
def State.endDemand (old s : State) (u : DriveId) : State :=
  if old.demand u = s.demand u then s
  else
    let s1 := s.setCache { s.cache with waiting := s.cache.waiting.filter fun v => v ≠ u }
    let s2 := (s1.setPrediction u none).lapsePromise u
    s2.discardPending (fun c => c.key.unit = u) 2

/-- R46: a fill at class 1 whose key is no longer demanded is lowered to class 5. -/
def State.lowerFill (s : State) (b : BufferId) : State :=
  if (s.buffer b).fills ∧ (s.buffer b).fillClass = some 1 ∧ s.current b = false then s.setFillClass b 5 else s

/-- R41, R46, R50: a unit's new demand key is held by a buffer. -/
def State.meetDemand (old s : State) (u : DriveId) : State :=
  if old.demand u = s.demand u then s
  else
    match s.demand u with
    | none => s
    | some k =>
      match s.holder k with
      | none => s
      | some b =>
        let s1 := if old.current b then s else s.stampBuffer b
        if (s1.buffer b).state = .filling then s1.setFillClass b 1
        else if (s1.buffer b).state.resident then s1.predict u
        else s1

/-- R43, R44: a unit's new demand key is held by no buffer: a demand fill is wanted, and waits when it finds
no buffer. -/
def State.wantFill (old s : State) (u : DriveId) : State :=
  if old.demand u = s.demand u then s
  else
    match s.demand u with
    | none => s
    | some k =>
      if (s.holder k).isSome then s
      else
        match s.demandFill u k with
        | (t, true) => t
        | (t, false) => t.setCache { t.cache with waiting := t.cache.waiting ++ [u] }

/-- The buffer that holds a unit's demand key (R41). -/
def State.demandHolder (s : State) (u : DriveId) : Option BufferId := (s.demand u).bind s.holder

/-- R41: two buffers trade their recencies. -/
def State.swapRecency (s : State) (a b : BufferId) : State :=
  let x := (s.buffer a).recency
  let y := (s.buffer b).recency
  (s.mapBuffer a fun v => { v with recency := y }).mapBuffer b fun v => { v with recency := x }

/-- R41: when buffers have become current for both units in one event, unit 0's counts as stamped first. No buffer is
chosen between the two stamps by their recencies, since both buffers are current. -/
def State.orderStamps (old s : State) : State :=
  match s.demandHolder 0, s.demandHolder 1 with
  | some a, some b =>
    let x := (s.buffer a).recency.getD 0
    let y := (s.buffer b).recency.getD 0
    let stamped := fun c : BufferId => (old.buffer c).recency ≠ (s.buffer c).recency
    if stamped a ∧ stamped b ∧ y < x then s.swapRecency a b else s
  | _, _ => s

/-- R41 to R51: the cache follows one event, from the state before it. -/
def State.followDemand (old s : State) : State :=
  let s1 := driveIds.foldl (State.endDemand old) s
  let s2 := bufferIds.foldl State.lowerFill s1
  let s3 := driveIds.foldl (State.meetDemand old) s2
  let s4 := if State.available old s3 then s3.resumeFills else s3
  let s5 := State.orderStamps old (driveIds.foldl (State.wantFill old) s4)
  let s6 := s5.raiseForWaiting.actOnPredictions
  s6.setCache { s6.cache with passDue := false }

/-- R42: TRACK_MISS when a unit comes to need a key that is not resident. -/
def State.trackMiss (old s : State) (u : DriveId) : State :=
  if old.needs u = s.needs u then s
  else
    match s.needs u with
    | none => s
    | some k =>
      if s.resident k then s
      else
        let detail :=
          match s.holder k with
          | none => 0
          | some b => if (s.buffer b).state = .filling then 1 else 2
        s.report (.onKey .trackMiss k none detail)

/-- R49: an index arrival of a unit: the UNREADABLE buffer of its demand key is filled again. -/
def State.retryFill (s : State) (u : DriveId) : State :=
  match s.demand u with
  | none => s
  | some k =>
    match s.holder k with
    | none => s
    | some b =>
      if (s.buffer b).state = .unreadable ∧ (s.buffer b).fillRetries < 3 then
        (s.mapBuffer b fun x =>
          { x with state := .filling, fillClass := some 1, fillRetries := x.fillRetries + 1 }).startFill b
      else s

/-- R52: the DIRTY buffers of a unit whose motor has gone to STOPPED are sent to flush. -/
def State.flushOnStop (old s : State) (u : DriveId) : State :=
  if (old.unit u).motor ≠ .stopped ∧ (s.unit u).motor = .stopped ∧ s.profile.flushOnStop = true then
    bufferIds.foldl
      (fun t b => if (t.buffer b).state = .dirty ∧ (t.buffer b).ofUnit u then t.beginAttempt b 4 else t) s
  else s

/-! ### The flush service (R58) -/

/-- Whether the flush service makes an attempt for a buffer. -/
def Buffer.unsettled (x : Buffer) : Bool := x.state = .dirty || x.state = .flushing || x.state = .unsaved

/-- The buffers of some units that the flush service attempts. -/
def State.serviceBuffers (s : State) (units : List DriveId) : List BufferId :=
  bufferIds.filter fun b => (s.buffer b).unsettled && units.any fun u => (s.buffer b).ofUnit u

/-- R58: the service is requested for some units. -/
def State.startService (s : State) (units : List DriveId) : State :=
  let todo := s.serviceBuffers units
  let s1 := s.setCache { s.cache with service := some ⟨units, todo, false, none⟩ }
  todo.foldl
    (fun t b => if (t.buffer b).state = .flushing then t.raiseFlush b else t.beginAttempt b 2) s1

/-- R58: the second fact that the service reports: a buffer of the units still holds a flagged sector. -/
def State.anyFlagged (s : State) (units : List DriveId) : Bool := units.any fun u => 0 < s.dirtyCount u

/-! ### Media leaving READY, release and removal (R61 to R63) -/

/-- R61: a fill of a unit whose media leaves READY is stopped. A buffer promised to another unit's demand fill
keeps its promise. -/
def State.stopFill (u : DriveId) (s : State) (b : BufferId) : State :=
  let x := s.buffer b
  if x.state = .filling ∧ x.ofUnit u = true then
    if s.inFlight = some (.fill b) then
      match x.fate with
      | .kept => s.mapBuffer b fun y => { y with fate := .dropped }
      | _ => s
    else (s.withdraw (.fill b)).freeBuffer b
  else s

/-- R61, R60: the cache's part of a unit's media leaving READY for EJECTING. -/
def State.stopUnit (s : State) (u : DriveId) : State :=
  (bufferIds.foldl (State.stopFill u) s).discardPending (fun c => c.key.unit = u) 3

/-- R62: a buffer of a unit is released, its waiting requests withdrawn. -/
def State.releaseBuffer (u : DriveId) (s : State) (b : BufferId) : State :=
  if (s.buffer b).ofUnit u then ((s.withdraw (.fill b)).withdraw (.flush b)).freeBuffer b else s

/-- R62: every buffer whose key names the unit becomes FREE. -/
def State.releaseUnit (s : State) (u : DriveId) : State := bufferIds.foldl (State.releaseBuffer u) s

/-- R62: a block transaction of the unit's buffers is in flight. -/
def State.unitInFlight (s : State) (u : DriveId) : Bool :=
  bufferIds.any fun b =>
    (s.buffer b).ofUnit u && (s.inFlight = some (.fill b) || s.inFlight = some (.flush b))

/-- R62: the waiting requests of a unit's buffers are withdrawn. -/
def State.withdrawUnit (s : State) (u : DriveId) : State :=
  bufferIds.foldl
    (fun t b => if (t.buffer b).ofUnit u then (t.withdraw (.fill b)).withdraw (.flush b) else t) s

/-- R63: the cache's part of a card removal, but for the pending record. -/
def State.dropCache (s : State) : State :=
  { s with
    buffers := Vector.replicate 3 Buffer.free
    cache := { s.cache with predictions := Vector.replicate 2 none, waiting := [], service := none, passDue := false } }

end Sys2Proof.Machine
end

