-- ==== Sys2Proof/Machine/Media.lean ====
section
/-! DEFINITION. The Media Manager: media states, mounting, the eject and its phases, and the end of a flush
service (R58, R62, R127 to R139, R173). -/

namespace Sys2Proof.Machine

/-! ### Changes of media state (R127, R130, R139) -/

/-- The media state and the mounted slot of a unit. -/
def State.setMedia (s : State) (u : DriveId) (m : Media) (slot : Option SlotId) : State :=
  s.setUnit u { s.unit u with media := m, mounted := slot }

/-- R119: the disk-change latch of a unit is set. -/
def State.setLatch (s : State) (u : DriveId) : State := s.setUnit u { s.unit u with latch := true }

/-- R9: a slot that holds a description, mounted or loaded. -/
def Slot.remount (x : Slot) (mount : Bool) : Slot :=
  match x.data with
  | none => .vacant
  | some d => if mount then .mounted d else .loaded d

/-- R130: a unit becomes READY with a slot, which becomes MOUNTED, and MEDIA_INSERTED is posted. -/
def State.insertMedia (s : State) (u : DriveId) (n : SlotId) : State :=
  let s1 := (s.setMedia u .ready (some n)).setSlot n ((s.slot n).remount true)
  s1.report (.onKey .mediaInserted (s1.key u) none n.val)

/-! ### The eject (R131 to R135) -/

/-- R133, R134, R139: the eject record is removed, or takes another phase. -/
def State.setEject (s : State) (r : Option EjectRecord) : State := { s with eject := r }

/-- R133, R135: an eject completes. -/
def State.completeEject (s : State) (r : EjectRecord) : State :=
  let count := s.dirtyCount r.unit
  let slot := (s.unit r.unit).mounted
  let s1 := (s.releaseUnit r.unit).setMedia r.unit .empty none
  let s2 :=
    match slot with
    | none => s1
    | some n => s1.setSlot n ((s1.slot n).remount false)
  let key := s2.key r.unit
  let s3 := if r.mode = .force then s2.report (.onKey .dataDiscarded key none count) else s2
  let s4 := s3.report (.onKey .mediaEjected key none ((slot.map Fin.val).getD 0xFF))
  (s4.setEject none).endCommand .ok []

/-- R62, R133, R135: the release: at once, or after the transaction of the unit's buffers that is in flight. -/
def State.tryRelease (s : State) (r : EjectRecord) : State :=
  if s.unitInFlight r.unit then (s.withdrawUnit r.unit).setEject (some { r with phase := .release })
  else s.completeEject r

/-- R134: a NORMAL eject is refused. -/
def State.refuseEject (s : State) (r : EjectRecord) : State :=
  let s1 := (s.setMedia r.unit .ready (s.unit r.unit).mounted).setEject none
  (s1.report (.onKey .ejectRefused (s1.key r.unit) none (s1.dirtyCount r.unit))).endCommand .refused []

/-- R62: an eject waits for its release and nothing of its unit is in flight. -/
def State.releaseDue (s : State) : Bool :=
  match s.eject with
  | none => false
  | some r => r.phase = .release && !s.unitInFlight r.unit

/-- R62: the eject that waited for a transaction completes. -/
def State.releaseNow (s : State) : State :=
  match s.eject with
  | none => s
  | some r => if s.releaseDue then s.completeEject r else s

/-- R173: FLUSH ends with the first final failure that the service counted. -/
def State.flushFailed (s : State) (failure : Option (Nat × Result)) : State :=
  s.endDetail .cardError ((failure.map fun e => e.2.code).getD Result.cardGone.code) 0xFF

/-- R58, R133, R134, R173: a flush service whose attempts have all ended ends, and its requester decides. A
service that is requested again and ends at once is looked at again, up to `fuel` times. -/
def State.settleService : Nat → State → State
  | 0, s => s
  | fuel + 1, s =>
    match s.cache.service with
    | none => s
    | some v =>
      if v.open_ ≠ [] then s
      else
        let s1 := s.setCache { s.cache with service := none }
        match s.eject with
        | some r =>
          if v.failed then s1.refuseEject r
          else if s1.anyFlagged v.units then State.settleService fuel (s1.startService v.units)
          else s1.tryRelease r
        | none =>
          if v.failed then s1.flushFailed v.failure
          else if s1.anyFlagged v.units then State.settleService fuel (s1.startService v.units)
          else s1.endCommand .ok []

/-- R58: the flush service is requested. -/
def State.requestService (s : State) (units : List DriveId) : State :=
  State.settleService 2 (s.startService units)

/-- R132: an eject leaves the phase HOLD. -/
def State.leaveHold (s : State) : State :=
  match s.eject with
  | none => s
  | some r =>
    if r.phase = .hold then
      match r.mode with
      | .normal => (s.setEject (some { r with phase := .save })).requestService [r.unit]
      | .force => s.tryRelease r
    else s

/-- R131, R132: an accepted EJECT. -/
def State.beginEject (s : State) (u : DriveId) (mode : EjectMode) : State :=
  let s1 := (s.setMedia u .ejecting (s.unit u).mounted).setLatch u
  let s2 := (s1.setEject (some ⟨u, mode, .hold⟩)).stopUnit u
  if s2.windowOf u then { s2 with wcu := { s2.wcu with ejectHoldDue := some (s2.after Config.ejectHoldMs) } }
  else s2.leaveHold

/-! ### Card removal (R139) -/

/-- R139: a unit with media is emptied. -/
def State.pullMedia (s : State) (u : DriveId) : State :=
  if (s.unit u).media = .empty then s else (s.setMedia u .empty none).setLatch u

/-- R139: DATA_DISCARDED for a unit that has lost dirty sectors. -/
def State.reportDiscarded (s : State) (u : DriveId) (count : Nat) : State :=
  if 0 < count then s.report (.onKey .dataDiscarded (s.key u) none count) else s

/-- R63, R84, R139: what a card removal does to the cache, the Write Capture Unit and the Media Manager. -/
def State.pullAll (s : State) : State :=
  let s1 := s.discardPending (fun _ => true) 3
  let s2 := (s1.reportDiscarded 0 (s.dirtyCount 0)).reportDiscarded 1 (s.dirtyCount 1)
  let s3 := ({ s2 with wcu := Wcu.reset }).dropCache
  (({ s3 with slots := Vector.replicate 8 .vacant }.pullMedia 0).pullMedia 1).setEject none

end Sys2Proof.Machine
end

