-- ==== Sys2Proof/Machine/Capture.lean ====
section
/-! DEFINITION. The Write Capture Unit: write windows, the data separator, marks, fields, the format capture and
its judgement (R79 to R107). -/

namespace Sys2Proof.Machine

/-- Changes what the Write Capture Unit holds. -/
def State.mapWcu (s : State) (g : Wcu → Wcu) : State := { s with wcu := g s.wcu }

/-! ### The data separator (R85 to R88) -/

/-- R85: the nominal half-cell period, in units of 1/256 µs. -/
def Format.nominal (f : Format) : Nat := (2 * 128000000 + f.rate * 1000) / (2 * (f.rate * 1000))

/-- The lower bound of the period. -/
def Format.periodLow (f : Format) : Nat := f.nominal - f.nominal / 16

/-- The upper bound of the period. -/
def Format.periodHigh (f : Format) : Nat := f.nominal + f.nominal / 16

/-- R86: the half-cells of an interval of `t` ticks. -/
def intervalCells (h t : Nat) : Nat := (2 * (16 * t) + h) / (2 * h)

/-- R86: the half-cell counts that are in band. -/
def Encoding.inBand (e : Encoding) (n : Nat) : Bool :=
  match e with
  | .mfm => 2 ≤ n && n ≤ 4
  | .fm => 1 ≤ n && n ≤ 2

/-- R87: the period after an in-band interval of `t` ticks and `n` half-cells. -/
def corrected (f : Format) (h t n : Nat) : Nat :=
  let r : Int := (16 * t : Int) - n * h
  let x : Int := h + Int.tdiv r (8 * n)
  (max (f.periodLow : Int) (min (f.periodHigh : Int) x)).toNat

/-! ### Half-cell patterns (R89, R90) -/

/-- A half-cell of the history is a 1. -/
def cellBit (c : Option Nat) : Bool := c.isSome

/-- The half-cells of a history, newest first, as a group of sixteen with the oldest foremost. -/
def groupOf : List (Option Nat) → Word16
  | [] => 0
  | c :: rest => (groupOf rest <<< 1) ||| (if cellBit c then 1 else 0)

/-- The data half-cells of a group. -/
def dataOf (g : Word16) : Byte :=
  ([7, 6, 5, 4, 3, 2, 1, 0].map fun i => if g.getLsbD (2 * i) then (1 : Byte) <<< i else 0).foldl (· ||| ·) 0

/-- The clock half-cells of a group. -/
def clockOf (g : Word16) : Byte := dataOf (g >>> 1)

/-- The pattern of a mark byte (R72). -/
def MarkKind.pattern : MarkKind → Word16
  | .a1 => 0x4489
  | .c2 => 0x5224

/-- What the decoder finds at a half-cell (R89, R90). -/
inductive Found where
  | nothing
  /-- An ID mark, with its position. -/
  | idMark (stamp : Nat)
  /-- A data mark, with its mark byte and position. -/
  | dataMark (mark : Byte) (stamp : Nat)
  /-- An index mark, with its position. -/
  | indexMark (stamp : Nat)
  /-- A1 A1 A1, or clock C7, with a byte that names no mark. -/
  | badMark
  deriving DecidableEq, Repr

/-- The stamp of a half-cell of the history counted from the oldest of sixteen. -/
def stampAt (cells : List (Option Nat)) (i : Nat) : Nat := ((cells[15 - i]?).getD none).getD 0

/-- R89: mark progress that starts at the newest half-cell. -/
def startProgress (cells : List (Option Nat)) : Option MarkProgress :=
  if cells.length < 16 then none
  else if groupOf cells = MarkKind.a1.pattern then some ⟨.a1, 1, stampAt cells 1⟩
  else if groupOf cells = MarkKind.c2.pattern then some ⟨.c2, 1, stampAt cells 1⟩
  else none

/-- R89: progress after it has been dropped at the end of a byte place (log entry 12). -/
def afterDrop (cells : List (Option Nat)) : Option MarkProgress :=
  if Config.rehunt then startProgress cells else none

/-- R89: the third mark byte has been followed by a byte. -/
def MarkKind.third (k : MarkKind) (stamp : Nat) (x : Byte) : Found :=
  match k with
  | .a1 =>
    if x = 0xFB ∨ x = 0xF8 then .dataMark x stamp else if x = 0xFE then .idMark stamp else .badMark
  | .c2 => if x = 0xFC then .indexMark stamp else .nothing

/-- R89: a half-cell inside a byte place. A pattern that ends there starts progress anew at its own alignment while
fewer than three marks stand: a sync run and the first A1 behind it hold the C2 pattern five half-cells before the A1
ends, and the worked example of chapter 5 counts that A1 (log entry 12). -/
def insidePlace (w : Wcu) (p : MarkProgress) : Wcu :=
  match if p.count < 3 then startProgress w.cells else none with
  | none => { w with aligned := w.aligned + 1 }
  | some q => { w with progress := some q, aligned := 0 }

/-- R89: the MFM decoder takes the newest half-cell of its history. -/
def seekMfm (w : Wcu) : Wcu × Found :=
  match w.progress with
  | none => ({ w with progress := startProgress w.cells, aligned := 0 }, .nothing)
  | some p =>
    if w.aligned < 15 then (insidePlace w p, .nothing)
    else if p.count < 3 then
      if groupOf w.cells = p.kind.pattern then
        ({ w with progress := some { p with count := p.count + 1 }, aligned := 0 }, .nothing)
      else ({ w with progress := afterDrop w.cells, aligned := 0 }, .nothing)
    else
      match p.kind.third p.stamp (dataOf (groupOf w.cells)) with
      | .nothing => ({ w with progress := afterDrop w.cells, aligned := 0 }, .nothing)
      | .badMark => ({ w with progress := afterDrop w.cells, aligned := 0 }, .badMark)
      | found => ({ w with progress := none, aligned := 0 }, found)

/-- R90: the FM decoder takes the newest half-cell of its history. -/
def seekFm (w : Wcu) : Wcu × Found :=
  let g := groupOf w.cells
  let x := dataOf g
  let stamp := stampAt w.cells 0
  let found : Found :=
    if w.cells.length < 16 then .nothing
    else if clockOf g = 0xC7 then
      if x = 0xFE then .idMark stamp else if x = 0xFB ∨ x = 0xF8 then .dataMark x stamp else .badMark
    else if clockOf g = 0xD7 ∧ x = 0xFC then .indexMark stamp
    else .nothing
  ({ w with aligned := 0 }, found)

/-- R89, R90: the decoder looks for a mark at the newest half-cell. -/
def seekMark (e : Encoding) (w : Wcu) : Wcu × Found :=
  match e with
  | .mfm => seekMfm w
  | .fm => seekFm w

/-! ### Fields (R92 to R96) -/

/-- R93: the distance between two positions the shorter way round a revolution. -/
def cyclicDistance (l p q : Nat) : Nat :=
  let d := (p - q) + (q - p)
  min d (l - d)

/-- R93: the physical slot that a mark position matches. -/
def matchSlot (f : Format) (tolerance p : Nat) : Option Nat :=
  (List.range f.sectors).find? fun k => cyclicDistance f.revolution p (f.expected k) ≤ 8 * tolerance

/-- R92: the capture record enters FIELD. -/
def State.enterField (s : State) (f : Format) (w : Window) (mark : Byte) (stamp : Nat) : State :=
  let slot := if w.inside then matchSlot f s.profile.tolerance stamp else none
  let sector := slot.bind fun k => (f.slotOrder w.key.cylinder w.key.head)[k]?
  s.mapWcu fun x =>
    { x with
      capture := .field, progress := none, aligned := 0, markPos := some stamp, slot := slot, sector := sector
      fieldBytes := [], remainder := some (crcByte f.enc.markPreset mark) }

/-- R96: the items of a field return to their reset values. -/
def Wcu.endField (x : Wcu) : Wcu :=
  { x with
    capture := .hunting, aligned := 0, markPos := none, slot := none, sector := none, fieldBytes := [], remainder := none }

/-- R95: a report of the capture record's window key and sector. -/
def State.reportField (s : State) (w : Window) (k : ReportKind) (detail : Nat) : State :=
  s.report (.onKey k w.key s.wcu.sector detail)

/-- R94, R97: a field of D + 2 bytes ends. -/
def State.completeField (s : State) (f : Format) (w : Window) : State :=
  let x := s.wcu
  let ended := fun t : State => t.mapWcu Wcu.endField
  if w.inside = false then ended (s.reportField w .writeStray 2)
  else
    match x.slot with
    | none => ended (s.reportField w .writeStray 1)
    | some k =>
      if x.remainder = some 0 then
        (ended s).handCapture ⟨w.key, x.sector, .data k (x.fieldBytes.take f.size)⟩
      else ended (s.reportField w .writeFieldBad 3)

/-- R92: a byte of the field is received. -/
def State.receiveByte (s : State) (f : Format) (w : Window) (b : Byte) : State :=
  let s1 := s.mapWcu fun x =>
    { x with fieldBytes := x.fieldBytes ++ [b], remainder := x.remainder.map fun r => crcByte r b }
  if s1.wcu.fieldBytes.length = f.size + 2 then s1.completeField f w else s1

/-! ### The format capture (R99 to R103) -/

/-- Changes the format capture items. -/
def State.mapFormat (s : State) (g : FormatCapture → FormatCapture) : State :=
  s.mapWcu fun x => { x with fmt := g x.fmt }

/-- R99: an entry as created. -/
def FormatEntry.fresh : FormatEntry := ⟨none, none, none, none, false, .absent⟩

/-- R102: byte `i` of the ID goes to the entry. -/
def FormatEntry.idByte (e : FormatEntry) (i : Nat) (b : Byte) : FormatEntry :=
  match i with
  | 0 => { e with cylinder := some b }
  | 1 => { e with head := some b }
  | 2 => { e with sector := some b }
  | 3 => { e with size := some b }
  | _ => e

/-- Changes the entry that owns the field in collection. -/
def FormatCapture.mapOwner (x : FormatCapture) (g : FormatEntry → FormatEntry) : FormatCapture :=
  match x.owner with
  | some (some i) => { x with entries := x.entries.modify i g }
  | _ => x

/-- R102, R103: no field is in collection. -/
def FormatCapture.seek (x : FormatCapture) : FormatCapture :=
  { x with
    phase := some .seeking, owner := none, received := 0, remainder := none, firstByte := none, uniform := true }

/-- R101, R102: an ID mark. -/
def FormatCapture.idMark (x : FormatCapture) (e : Encoding) : FormatCapture :=
  let y := { x.seek with phase := some .id, remainder := some (crcByte e.markPreset 0xFE) }
  if x.entries.length < Config.formatEntries then
    { y with entries := x.entries ++ [FormatEntry.fresh], owner := some (some x.entries.length) }
  else { y with overflow := true, owner := some none }

/-- R103: a data mark. -/
def FormatCapture.dataMark (x : FormatCapture) (e : Encoding) (mark : Byte) : FormatCapture :=
  let y := { x.seek with phase := some .data, remainder := some (crcByte e.markPreset mark), owner := some none }
  if x.overflow then y
  else
    match x.entries.getLast? with
    | none => y
    | some last =>
      if last.data = .absent then { y with owner := some (some (x.entries.length - 1)) }
      else { y with entries := x.entries.modify (x.entries.length - 1) fun v => { v with data := .bad } }

/-- R100: the capture state goes from HUNTING to FORMAT at a mark. -/
def State.enterFormat (s : State) (f : Format) (stamp : Nat) (isId : Bool) : State :=
  let x := { FormatCapture.reset with start := some stamp, phase := some .seeking }
  s.mapWcu fun w =>
    { w with capture := .format, progress := none, aligned := 0, fmt := if isId then x.idMark f.enc else x }

/-- R102: a byte of an ID field is received. -/
def FormatCapture.takeId (x : FormatCapture) (b : Byte) : FormatCapture :=
  let r := x.remainder.map fun r => crcByte r b
  let y : FormatCapture :=
    { x.mapOwner (fun e => e.idByte x.received b) with received := x.received + 1, remainder := r }
  if y.received = 6 then (y.mapOwner fun e => { e with idGood := r = some 0 }).seek else y

/-- R103: the data state that a whole data field gives its owner. -/
def FormatCapture.outcome (x : FormatCapture) : DataState :=
  if x.remainder = some 0 then
    match x.firstByte with
    | none => .bad
    | some b => if x.uniform then .uniform b else .nonuniform
  else .bad

/-- R103: a byte of a data field is received, of which the first `size` are data. -/
def FormatCapture.takeData (x : FormatCapture) (size : Nat) (b : Byte) : FormatCapture :=
  let y := { x with received := x.received + 1, remainder := x.remainder.map fun r => crcByte r b }
  let z :=
    if x.received < size then
      match x.firstByte with
      | none => { y with firstByte := some b }
      | some v => if v = b then y else { y with uniform := false }
    else y
  if z.received = size + 2 then (z.mapOwner fun e => { e with data := z.outcome }).seek else z

/-- R102, R103: a field in collection is cut. -/
def FormatCapture.cut (x : FormatCapture) : FormatCapture :=
  match x.phase with
  | some .data => (x.mapOwner fun e => { e with data := .bad }).seek
  | some .id => x.seek
  | _ => x

/-! ### Half-cells and intervals -/

/-- What a mark found in HUNTING leads to (R89, R90, R92, R100). -/
def State.foundHunting (s : State) (f : Format) (w : Window) : Found → State
  | .nothing => s
  | .idMark stamp => s.enterFormat f stamp true
  | .dataMark mark stamp => s.enterField f w mark stamp
  | .indexMark stamp => s.enterFormat f stamp false
  | .badMark => s.report (.onKey .writeFieldBad w.key none 4)

/-- What a mark found in SEEKING leads to (R101). -/
def State.foundSeeking (s : State) (f : Format) : Found → State
  | .idMark _ => s.mapFormat fun x => x.idMark f.enc
  | .dataMark mark _ => s.mapFormat fun x => x.dataMark f.enc mark
  | _ => s

/-- R92, R102, R103: a half-cell of a field; the sixteenth of a byte place completes a byte. -/
def State.fieldCell (s : State) (take : State → Byte → State) : State :=
  if s.wcu.aligned < 15 then s.mapWcu fun x => { x with aligned := x.aligned + 1 }
  else take (s.mapWcu fun x => { x with aligned := 0 }) (dataOf (groupOf s.wcu.cells))

/-- R89 to R92, R101 to R103: a half-cell passes to the decoder. -/
def State.passCell (s : State) (f : Format) (w : Window) (c : Option Nat) : State :=
  let s1 := s.mapWcu fun x => { x with cells := (c :: x.cells).take 16 }
  match s1.wcu.capture with
  | .idle => s1
  | .hunting =>
    let r := seekMark f.enc s1.wcu
    (s1.mapWcu fun _ => r.1).foundHunting f w r.2
  | .field => s1.fieldCell fun t b => t.receiveByte f w b
  | .format =>
    match s1.wcu.fmt.phase with
    | some .id => s1.fieldCell fun t b => t.mapFormat fun x => x.takeId b
    | some .data => s1.fieldCell fun t b => t.mapFormat fun x => x.takeData f.size b
    | _ =>
      let r := seekMark f.enc s1.wcu
      (s1.mapWcu fun _ => r.1).foundSeeking f r.2

/-- R86: `n` half-cells of 0. -/
def State.passZeros (s : State) (f : Format) (w : Window) : Nat → State
  | 0 => s
  | n + 1 => (s.passCell f w none).passZeros f w n

/-- R88: a lock loss. -/
def State.loseLock (s : State) (w : Window) : State :=
  let s1 := s.mapWcu fun x => { x with locked := false, run := 0, progress := none, cells := [], aligned := 0 }
  match s.wcu.capture with
  | .field => (s1.reportField w .writeFieldBad 2).mapWcu Wcu.endField
  | .format => s1.mapFormat FormatCapture.cut
  | _ => s1

/-- R86 to R88: an interval of `t` ticks ends with a transition stamped `stamp`. -/
def State.interval (s : State) (f : Format) (w : Window) (t stamp : Nat) : State :=
  let h := s.wcu.period.getD f.nominal
  let n := intervalCells h t
  if f.enc.inBand n then
    let s1 := s.mapWcu fun x =>
      { x with
        period := some (corrected f h t n)
        run := min Config.lockRun (x.run + 1)
        locked := x.locked || x.run + 1 == Config.lockRun }
    if s1.wcu.locked then (s1.passZeros f w (n - 1)).passCell f w (some stamp) else s1
  else if s.wcu.locked then s.loseLock w
  else s.mapWcu fun x => { x with run := 0 }

/-- R85: a write transition, after `t` ticks where they are given and otherwise after the ticks passed since the
reference edge. -/
def State.transition (s : State) (t : Option Nat) : State :=
  match s.wcu.window with
  | none => s
  | some w =>
    if w.prot then s
    else
      match s.format w.key.unit with
      | none => s
      | some f =>
        let s1 := s.mapWcu fun x => { x with refEdge := some s.now }
        match s.wcu.refEdge with
        | none => s1
        | some e => s1.interval f w (min Config.maxInterval (t.getD (s.now - e))) (s.position w.key.unit)

/-! ### Judgement (R104, R105) -/

/-- R104, condition 3. -/
def FormatEntry.idHolds (f : Format) (k : Key) (e : FormatEntry) : Bool :=
  e.idGood && e.cylinder = some (byteOf k.cylinder) && e.head = some (byteOf k.head) &&
    e.size = some (byteOf f.sizeCode)

/-- R104, condition 4, for an entry after some others. -/
def FormatEntry.sectorHolds (f : Format) (before : List FormatEntry) (e : FormatEntry) : Bool :=
  match e.sector with
  | none => false
  | some x =>
    f.first ≤ x.toNat && x.toNat ≤ f.first + f.sectors - 1 && before.all fun d => d.sector ≠ e.sector

/-- The first entry that fails condition 4. -/
def badSector (f : Format) : List FormatEntry → List FormatEntry → Option FormatEntry
  | _, [] => none
  | before, e :: rest => if e.sectorHolds f before then badSector f (before ++ [e]) rest else some e

/-- Whether an entry's data are uniform. -/
def FormatEntry.fill (e : FormatEntry) : Option Byte :=
  match e.data with
  | .uniform b => some b
  | _ => none

/-- The sector that a rejection names for an entry. -/
def FormatEntry.named (e : FormatEntry) : Option Nat := e.sector.map BitVec.toNat

/-- R104: the reason code and the sector of a rejection; none for a conforming capture. -/
def rejection (f : Format) (w : Window) (x : FormatCapture) : Option (Nat × Option Nat) :=
  if x.overflow then some (6, none)
  else if x.entries.length ≠ f.sectors then some (1, none)
  else
    match x.entries.find? fun e => !e.idHolds f w.key with
    | some e => some (2, e.named)
    | none =>
      match badSector f [] x.entries with
      | some e => some (3, e.named)
      | none =>
        match x.entries.find? fun e => e.fill.isNone with
        | some e => some (4, e.named)
        | none => if w.inside then none else some (5, none)

/-- R106: the fill values of a conforming capture. -/
def FormatCapture.fills (x : FormatCapture) : List (Nat × Byte) :=
  x.entries.map fun e => ((e.named).getD 0, e.fill.getD 0)

/-- R104 to R106: the format capture is judged, and an accepted one handed to the cache. -/
def State.judge (s : State) (f : Format) (w : Window) : State :=
  let x := s.wcu.fmt.cut
  match rejection f w x with
  | some (reason, sector) => s.report (.onKey .formatRejected w.key sector reason)
  | none =>
    (s.report (.onKey .formatAccepted w.key none (x.start.getD 0 / 8))).handCapture ⟨w.key, none, .format x.fills⟩

/-! ### Windows (R80 to R84) -/

/-- R80: the detail of WRITE_PROTECTED. -/
def protectDetail (slot lock : Bool) : Nat := (if slot then 1 else 0) + (if lock then 2 else 0)

/-- R79, R80, R85: what the Write Capture Unit holds as a window opens: a protected one decodes nothing, any other one
starts its separator and hunts. -/
def Wcu.opened (x : Wcu) (f : Format) (w : Window) : Wcu :=
  if w.prot then { Wcu.reset with window := some w, pending := x.pending }
  else { Wcu.reset with window := some w, capture := .hunting, period := some f.nominal, pending := x.pending }

/-- R80, R85: a window opens for a unit. -/
def State.openWindow (s : State) (u : DriveId) : State :=
  match s.format u with
  | none => s
  | some f =>
    let k := s.key u
    let prot := s.slotProtected u || s.card.lock
    let s1 := s.mapWcu fun x => x.opened f ⟨k, prot, f.inside k.cylinder k.head⟩
    if prot then s1.report (.onKey .writeProtected k none (protectDetail (s.slotProtected u) s.card.lock)) else s1

/-- R80, R81: an assertion edge of WGATE. -/
def State.gateEdge (s : State) : State :=
  match s.onlySelected with
  | none => s
  | some u =>
    if (s.unit u).media = .ready ∧ (s.unit u).motor = .atSpeed ∧ s.wcu.window = none then s.openWindow u else s

/-- R82: what the close does with a field or a format capture in progress. -/
def State.closeCapture (s : State) (w : Window) : State :=
  match s.wcu.capture with
  | .field => s.reportField w .writeFieldBad 1
  | .format =>
    match s.format w.key.unit with
    | none => s
    | some f => s.judge f w
  | _ => s

/-- R79, R82: the window, the capture and the separator items at their reset values; the pending record stays. -/
def Wcu.closed (x : Wcu) : Wcu := { Wcu.reset with pending := x.pending }

/-- R82: the open window closes, and the close is announced to the Media Manager (R132). -/
def State.closeWindow (s : State) : State :=
  match s.wcu.window with
  | none => s
  | some w =>
    let s1 := (s.closeCapture w).mapWcu Wcu.closed
    if (s1.unit w.key.unit).media = .ejecting then s1.leaveHold else s1

end Sys2Proof.Machine
end

