-- ==== Sys2Proof/Machine/Stream.lean ====
section
/-! DEFINITION. The rotation of a unit and its read stream, bit by bit (R20, R29 to R32, R65 to R76). -/

namespace Sys2Proof.Machine

/-! ### The track under the head (R22 to R24, R69) -/

/-- A byte of a track, and whether it is emitted with the clocks of a mark (R72, R73). -/
structure TrackByte where
  value : Byte
  marked : Bool
  deriving DecidableEq, Repr

/-- A byte emitted by the ordinary rule of its encoding. -/
def TrackByte.plain (x : Byte) : TrackByte := ⟨x, false⟩

/-- Byte `i` of a mark with this mark byte and, in MFM, these three bytes before it (R22, R23). -/
def markByteAt (e : Encoding) (lead final : Byte) (i : Nat) : TrackByte :=
  match e with
  | .mfm => if i < 3 then ⟨lead, true⟩ else .plain final
  | .fm => ⟨final, true⟩

/-- A field of a track: its mark byte and the bytes that its check value covers after it. -/
structure Field where
  mark : Byte
  content : List Byte

/-- R70: a field's bytes and its check value. -/
def Field.emitted (e : Encoding) (x : Field) : List Byte :=
  x.content ++ crcBytes (crc e.markPreset (x.mark :: x.content))

/-- R69: the ID field of physical slot `k`. -/
def idField (f : Format) (key : Key) (es : List Entry) (k : Nat) : Field :=
  ⟨0xFE, [byteOf key.cylinder, byteOf key.head, byteOf ((es[k]?.map Entry.number).getD 0), byteOf f.sizeCode]⟩

/-- R69: the data field of physical slot `k`. -/
def dataField (es : List Entry) (k : Nat) : Field := ⟨0xFB, (es[k]?.map Entry.data).getD []⟩

/-- R70: the field between whose mark and whose check value's end track byte `j` lies, with whether `j` is the
first byte of its mark. -/
def fieldAt (f : Format) (key : Key) (es : List Entry) (j : Nat) : Option (Field × Bool) :=
  if j < f.prefixLen ∨ f.content ≤ j then none
  else
    let k := (j - f.prefixLen) / f.blockLen
    let o := (j - f.prefixLen) % f.blockLen
    if f.sync ≤ o ∧ o < f.idOffset + 6 then some (idField f key es k, o == f.sync)
    else if f.dataMarkOffset ≤ o ∧ o < f.dataOffset + f.size + 2 then some (dataField es k, o == f.dataMarkOffset)
    else none

/-- R22 to R24, R69: track byte `j` in TRACK, with the field under the head as it was taken. Every byte from the
content's end on, the cut last byte among them, is gap fill. -/
def trackByteAt (f : Format) (taken : List Byte) (j : Nat) : TrackByte :=
  if f.content ≤ j then .plain f.gap
  else if j < f.prefixLen then
    if f.indexMark ∧ f.leadGap ≤ j ∧ j < f.leadGap + f.sync then .plain 0
    else if f.indexMark ∧ f.leadGap + f.sync ≤ j ∧ j < f.leadGap + f.sync + f.mark then
      markByteAt f.enc 0xC2 0xFC (j - (f.leadGap + f.sync))
    else .plain f.gap
  else
    let o := (j - f.prefixLen) % f.blockLen
    if o < f.sync then .plain 0
    else if o < f.idOffset then markByteAt f.enc 0xA1 0xFE (o - f.sync)
    else if o < f.idOffset + 6 then .plain (taken.getD (o - f.idOffset) 0)
    else if o < f.dataSyncOffset then .plain f.gap
    else if o < f.dataMarkOffset then .plain 0
    else if o < f.dataOffset then markByteAt f.enc 0xA1 0xFB (o - f.dataMarkOffset)
    else if o < f.dataOffset + f.size + 2 then .plain (taken.getD (o - f.dataOffset) 0)
    else .plain f.gap

/-! ### Half-cells (R71 to R73) -/

/-- R72, R73: the clock half-cells of a mark's bytes. -/
def markClock (e : Encoding) (x : Byte) : Byte :=
  match e with
  | .mfm => if x = 0xA1 then 0x0A else 0x14
  | .fm => if x = 0xFC then 0xD7 else 0xC7

/-- The data half-cell of bit `i` of a byte, bit 0 being emitted first. -/
def TrackByte.dataBit (x : TrackByte) (i : Nat) : Bool := x.value.getLsbD (7 - i)

/-- The clock half-cell of bit `i` of a byte (R71, R72, R73). -/
def TrackByte.clockBit (e : Encoding) (prev : Bool) (x : TrackByte) (i : Nat) : Bool :=
  if x.marked then (markClock e x.value).getLsbD (7 - i)
  else
    match e with
    | .mfm => !prev && !x.dataBit i
    | .fm => true

/-- The half-cells of `n` bits of a byte from bit `i` on, after a previous data bit. -/
def TrackByte.cells (e : Encoding) (prev : Bool) (x : TrackByte) : Nat → Nat → List Bool
  | 0, _ => []
  | n + 1, i => x.clockBit e prev i :: x.dataBit i :: TrackByte.cells e (x.dataBit i) x n (i + 1)

/-! ### Emission at a bit boundary (R67 to R70, R76) -/

/-- The entries of the buffer that holds a key (R69). -/
def State.entriesOf (s : State) (k : Key) : List Entry :=
  match s.holder k with
  | none => []
  | some b => (s.buffer b).entries

/-- R70: the field under the head as held at a byte boundary: taken anew at its mark, or on a resumption inside
it. -/
def State.takenAt (s : State) (f : Format) (u : DriveId) (j : Nat) (resumed : Bool) : List Byte :=
  match fieldAt f (s.key u) (s.entriesOf (s.key u)) j with
  | none => []
  | some (x, start) => if start || resumed then x.emitted f.enc else (s.unit u).taken

/-- R68, R69: the track byte that the unit's mode gives. -/
def StreamMode.byteAt (m : StreamMode) (f : Format) (taken : List Byte) (j : Nat) : TrackByte :=
  match m with
  | .track => trackByteAt f taken j
  | _ => .plain f.gap

/-- A unit whose stream is silent (R65, R67). -/
def UnitState.silent (x : UnitState) : UnitState := { x with prevBit := false, clockCell := false, dataCell := false }

/-- R67 to R76: the bit at the unit's angular position begins, and its two half-cells are emitted. -/
def State.emitBit (s : State) (u : DriveId) : State :=
  match s.format u with
  | none => s
  | some f =>
    let x := s.unit u
    let pos := s.position u
    if x.mode = .quiet then s.setUnit u { x.silent with hold := false }
    else if x.hold ∧ pos % 8 ≠ 0 then s.setUnit u x.silent
    else
      let taken :=
        if x.mode = .track ∧ pos % 8 = 0 then s.takenAt f u (pos / 8) x.hold else x.taken
      let b := x.mode.byteAt f taken (pos / 8)
      s.setUnit u
        { x with
          hold := false
          taken := taken
          clockCell := b.clockBit f.enc x.prevBit (pos % 8)
          dataCell := b.dataBit (pos % 8)
          prevBit := b.dataBit (pos % 8) }

/-! ### The rotation (R20, R29 to R32) -/

/-- The bits up to `n` exclusive are emitted without an event of another kind between them: the stream stands
as at bit `n − 1` (log entry 21). -/
def State.passBits (s : State) (u : DriveId) (n : Nat) : State :=
  match s.format u with
  | none => s
  | some f =>
    let x := s.unit u
    let last := n - 1
    let pos := last % f.revolution
    let crossed := x.bitCount < last - pos % 8
    let hold := x.hold && !crossed
    if last ≤ x.bitCount then s
    else if x.mode = .quiet ∨ hold then s.setUnit u { x with bitCount := last }
    else
      let taken := if x.mode = .track ∧ crossed then s.takenAt f u (pos / 8) true else x.taken
      let b := x.mode.byteAt f taken (pos / 8)
      s.setUnit u { x with bitCount := last, hold := hold, taken := taken, prevBit := b.dataBit (pos % 8) }

/-- R20: the unit's stream runs up to bit `n`, which begins, when the unit has not come so far. At position 0 a bit is
an index arrival (R32), and so is one passed on the way (R49). -/
def State.runToBit (s : State) (u : DriveId) (n : Nat) : State :=
  match s.format u with
  | none => s
  | some f =>
    if (s.unit u).bitCount < n then
      let s1 := s.passBits u n
      let s2 := s1.setUnit u { s1.unit u with bitCount := n }
      (if (s.unit u).bitCount / f.revolution < n / f.revolution then s2.retryFill u else s2).emitBit u
    else s

/-- R20, R29: a unit that turns comes to the last bit that has begun by a moment. -/
def State.turnTo (s : State) (u : DriveId) (t : Nat) : State :=
  if s.rotating u then
    match s.format u with
    | none => s
    | some f => s.runToBit u (f.bitBegun (t - (s.unit u).rotationStart))
  else s

/-- R32: the moment of a turning unit's next index arrival. -/
def State.nextArrival (s : State) (u : DriveId) : Nat :=
  match s.format u with
  | none => 0
  | some f =>
    let x := s.unit u
    x.rotationStart + f.bitTick ((x.bitCount / f.revolution + 1) * f.revolution)

/-- The clock is brought to the moment of a timed event that is taken (log entry 2), and the units that turn come to
the last bits begun by then, the one with the earlier index arrival first. -/
def State.runTo (s : State) (m : Nat) : State :=
  let s1 := { s with now := max s.now m }
  if s1.nextArrival 1 < s1.nextArrival 0 then (s1.turnTo 1 s1.now).turnTo 0 s1.now
  else (s1.turnTo 0 s1.now).turnTo 1 s1.now

/-- The other unit. -/
def otherUnit (u : DriveId) : DriveId := if u = 0 then 1 else 0

/-- R20: bit `n` of a unit begins: the clock is brought to its moment, and the other unit comes to the last bit begun
by then. -/
def State.beginBit (s : State) (u : DriveId) (n : Nat) : State :=
  match s.format u with
  | none => s
  | some f =>
    let s1 := { s with now := max s.now ((s.unit u).rotationStart + f.bitTick n) }
    (s1.turnTo (otherUnit u) s1.now).runToBit u n

/-- R30, R32: a rotation starts: bit 0 begins now. -/
def State.startRotation (s : State) (u : DriveId) : State :=
  s.setUnit u { s.unit u with rotationStart := s.now, bitCount := 0 }

/-- R31: a rotation stops: the position is 0 and held. -/
def State.stopRotation (s : State) (u : DriveId) : State := s.setUnit u { s.unit u with bitCount := 0 }

/-! ### Changes of mode (R67) -/

/-- The moment at which a pulse of the unit's stream that began before moment `t` ends. A half-cell that begins at
`t` itself belongs to the stream after the change (log entry 23). -/
def State.pulseRest (s : State) (u : DriveId) (t : Nat) : Nat :=
  let x := s.unit u
  match s.format u with
  | none => x.pulseEnd
  | some f =>
    let clockAt := x.rotationStart + f.cellTick (2 * x.bitCount)
    let dataAt := x.rotationStart + f.cellTick (2 * x.bitCount + 1)
    if x.dataCell ∧ dataAt < t then dataAt + Config.pulseTicks
    else if x.clockCell ∧ clockAt < t then clockAt + Config.pulseTicks
    else x.pulseEnd

/-- R67: the stream falls silent now; a pulse already begun runs to its end. -/
def State.silence (old s : State) (u : DriveId) : State :=
  s.setUnit u { (s.unit u).silent with pulseEnd := old.pulseRest u s.now }

/-- R67, R76: a resume hold is set; at a byte boundary it ends at once, and the stream begins with the bit at
that boundary. -/
def State.setHold (old s : State) (u : DriveId) : State :=
  let s1 := State.silence old s u
  let s2 := s1.setUnit u { s1.unit u with hold := true }
  match s2.format u with
  | none => s2
  | some f =>
    if s2.position u % 8 = 0 ∧ s2.now ≤ (s2.unit u).rotationStart + f.bitTick (s2.unit u).bitCount then s2.emitBit u
    else s2

/-- R66, R67: the unit's mode is taken up again after one event. -/
def State.takeMode (old s : State) (u : DriveId) : State :=
  let before := (s.unit u).mode
  let mode := s.modeOf u
  let s1 := s.setUnit u { s.unit u with mode := mode }
  match before, mode with
  | .quiet, .quiet => s1
  | .filler, .filler => s1
  | .track, .track => if old.key u = s.key u then s1 else State.setHold old s1 u
  | _, .quiet =>
    let s2 := State.silence old s1 u
    s2.setUnit u { s2.unit u with hold := false }
  | _, _ => State.setHold old s1 u

end Sys2Proof.Machine
end

