-- ==== Sys2Proof/Machine/Drive.lean ====
section
/-! DEFINITION. The Drive Port (chapter 7), what every block does when the conditions it follows change in an event
(`react`), and what the events of the drive bus and of the rotation do. -/

namespace Sys2Proof.Machine

/-! ### Motors, selection and rotation after an event (R112, R116, R30, R31) -/

/-- R116: a unit's motor follows its motor signal. -/
def State.followMotor (old s : State) (u : DriveId) : State :=
  match old.motorOn u, s.motorOn u with
  | false, true =>
    if (s.unit u).motor = .stopped then
      if s.profile.spinUp = 0 then s.setUnit u { s.unit u with motor := .atSpeed, spinUpDue := none }
      else s.setUnit u { s.unit u with motor := .spinningUp, spinUpDue := some (s.after s.profile.spinUp) }
    else s
  | true, false => s.setUnit u { s.unit u with motor := .stopped, spinUpDue := none }
  | _, _ => s

/-- Whether the set of selected units differs between two states. -/
def selectionChanged (old s : State) : Bool := old.selected 0 != s.selected 0 || old.selected 1 != s.selected 1

/-- R82: an event that closes the open window has happened. -/
def State.closes (old s : State) : Bool :=
  match s.wcu.window with
  | none => false
  | some w =>
    selectionChanged old s || old.head != s.head || (s.unit w.key.unit).motor ≠ .atSpeed ||
      (old.level .wgate && !s.level .wgate)

/-- R82: the window is closed when its close has come. -/
def State.followWindow (old s : State) : State := if State.closes old s then s.closeWindow else s

/-- R112: the select-conflict state follows the selection; `closed` says whether a window was open before. -/
def State.followConflict (s : State) (closed : Bool) : State :=
  if s.selected 0 && s.selected 1 then
    match s.conflict with
    | .conflict => s
    | .none => ({ s with conflict := .conflict }).report (.bare .selectConflict (if closed then 1 else 0))
  else { s with conflict := .none }

/-- R30, R31: a unit's rotation starts or stops. -/
def State.followRotation (old s : State) (u : DriveId) : State :=
  match old.rotating u, s.rotating u with
  | false, true => s.startRotation u
  | true, false => s.stopRotation u
  | _, _ => s

/-- R49, R32: the index arrival of a rotation that has started. -/
def State.firstArrival (old s : State) (u : DriveId) : State :=
  if old.rotating u = false ∧ s.rotating u = true then s.retryFill u else s

/-- R80, R122: the assertion edge of WGATE, when there was one. -/
def State.followGate (old s : State) : State :=
  if old.level .wgate = false ∧ s.level .wgate = true then s.gateEdge else s

/-- What every block does after an event that took the part from `old` to `s` (R118, R128; log entry 17): motors,
the open window, the select conflict, rotations, the cache's demand, the fill retries of first index arrivals, the
TRACK_MISS checks, the opening of a window, and the read stream modes. -/
def react (old s : State) : State :=
  let s1 := driveIds.foldl (State.followMotor old) s
  let s2 := (State.followWindow old s1).followConflict s1.wcu.window.isSome
  let s3 := driveIds.foldl (State.followRotation old) s2
  let s4 := State.followDemand old (driveIds.foldl (State.flushOnStop old) s3)
  let s5 := driveIds.foldl (State.trackMiss old) (driveIds.foldl (State.firstArrival old) s4)
  driveIds.foldl (State.takeMode old) (State.followGate old s5)

/-- An event whose own change is `g`. -/
def State.event (s : State) (g : State → State) : State := react s (g s)

/-! ### Steps (R113, R114, R119) -/

/-- R113: whether a step would stay inside the physical range. -/
def State.stepInside (s : State) (u : DriveId) (inward : Bool) : Bool :=
  if inward then (s.unit u).cylinder + 1 < s.profile.physical else 0 < (s.unit u).cylinder

/-- R34: the settle that an accepted step starts. -/
def State.settleFrom (s : State) : Option Nat :=
  if s.profile.settle = 0 then none else some (s.after s.profile.settle)

/-- R113, R119: a unit takes a step. -/
def State.takeStep (s : State) (u : DriveId) (inward : Bool) : State :=
  let x := s.unit u
  let accepted := s.stepInside u inward
  s.setUnit u
    { x with
      cylinder := if accepted then (if inward then x.cylinder + 1 else x.cylinder - 1) else x.cylinder
      lastDir := if inward then .inward else .outward
      settleDue := if accepted then s.settleFrom else x.settleDue
      latch := x.latch && x.media ≠ .ready }

/-- R113, R114: a STEP assertion edge. -/
def State.stepEdge (s : State) : State :=
  if s.level .wgate then s
  else
    driveIds.foldl (fun t u => if s.selected u then t.takeStep u (s.level .dir) else t) s

/-! ### Pins (R108) -/

/-- The sampled levels with one pin at a level. -/
def pinsWith (pins : BitVec 9) (p : InPin) (level : Bool) : BitVec 9 :=
  if level then pins ||| (1#9 <<< p.val) else pins &&& ~~~(1#9 <<< p.val)

/-- R108: new levels are sampled. `t` is the interval that a WDATA edge ends, where the command gives it. -/
def State.setPins (s : State) (pins : BitVec 9) (t : Option Nat) : State :=
  let s1 := s.event fun x => { x with pins := pins }
  let s2 := if s.level .step = false ∧ s1.level .step = true then s1.event State.stepEdge else s1
  if s.level .wdata = false ∧ s1.level .wdata = true then s2.event fun x => x.transition t else s2

/-- R108: the pin of an internal input takes a level; an input tied inactive has none. -/
def State.setInput (s : State) (i : Input) (level : Bool) : State :=
  match s.pinOf i with
  | none => s
  | some p => s.setPins (pinsWith s.pins p level) none

/-- The pin of an internal input that is asserted is released before its next assertion edge. -/
def State.released (s : State) (i : Input) : State := if s.level i then s.setInput i false else s

/-- R113: a STEP pulse, with DIR at a level. -/
def State.stepPulse (s : State) (inward : Bool) : State :=
  let s1 := s.released .step
  let pins :=
    match s1.pinOf .dir with
    | none => s1.pins
    | some d => pinsWith s1.pins d inward
  match s1.pinOf .step with
  | none => s1.setPins pins none
  | some p => (s1.setPins (pinsWith pins p true) none).setInput .step false

/-- R85: a WDATA pulse, `t` ticks after the transition before it. -/
def State.writePulse (s : State) (t : Nat) : State :=
  let s1 := s.released .wdata
  match s1.pinOf .wdata with
  | none => s1
  | some p =>
    let due :=
      match s1.wcu.refEdge with
      | none => s1.now
      | some e => e + t
    ((s1.runTo due).setPins (pinsWith s1.pins p true) (some t)).setInput .wdata false

/-! ### The commands -/

/-- R116: a spin-up timer that runs expires. -/
def State.spinUp (s : State) (u : DriveId) : State :=
  match (s.unit u).spinUpDue with
  | none => s
  | some m =>
    (s.runTo m).event fun x => x.setUnit u { x.unit u with motor := .atSpeed, spinUpDue := none }

/-- R35: a settle that runs expires. -/
def State.settled (s : State) (u : DriveId) : State :=
  match (s.unit u).settleDue with
  | none => s
  | some m => (s.runTo m).event fun x => x.setUnit u { x.unit u with settleDue := none }

/-- R20: the next bit begins. -/
def State.advanceBit (s : State) (u : DriveId) : State := s.beginBit u ((s.unit u).bitCount + 1)

/-- R32: the revolution under way closes. -/
def State.closeRevolution (s : State) (u : DriveId) : State :=
  match s.format u with
  | none => s
  | some f => s.beginBit u (((s.unit u).bitCount / f.revolution + 1) * f.revolution)

/-- R21: the position passes the last of the index region. -/
def State.leaveIndex (s : State) (u : DriveId) : State :=
  match s.format u with
  | none => s
  | some f => s.beginBit u ((s.unit u).bitCount / f.revolution * f.revolution + f.indexBits)

/-- R76: the next byte boundary, whole bytes and the close of the revolution alike. -/
def nextBoundary (f : Format) (n : Nat) : Nat :=
  let pos := n % f.revolution
  n - pos + min f.revolution (8 * (pos / 8 + 1))

/-- R76: the resume hold ends at the next byte boundary. -/
def State.resume (s : State) (u : DriveId) : State :=
  match s.format u with
  | none => s
  | some f => s.beginBit u (nextBoundary f (s.unit u).bitCount)

/-- R83: an eject hold that runs reaches 0. -/
def State.holdOver (s : State) : State :=
  match s.wcu.ejectHoldDue with
  | none => s
  | some m => (s.runTo m).event State.closeWindow

/-- R52: the write-back delay of a DIRTY buffer is over. -/
def State.delayOver (s : State) (b : BufferId) : State :=
  match (s.buffer b).lastWrite with
  | none => s
  | some t =>
    if (s.buffer b).state = .dirty then
      (s.runTo (t + s.profile.writeBack * Config.ticksPerMs)).event fun x => x.beginAttempt b 4
    else s

end Sys2Proof.Machine
end

