-- ==== Sys2Proof/Machine/Reset.lean ====
section
/-! DEFINITION. The two resets of the part (R126, R154, R164, R179). -/

namespace Sys2Proof.Machine

/-- The values after either reset, before the drive bus is sampled: time, the model's own counters and the waiting
commands go on; a transaction of the link is left beyond its frame (R164), and the card's detect time counts while
CDET is asserted (R154). Both streams are silent at once: a read pulse already begun is cut, which R67, R126 and R179
leave open (log entry 32). -/
def State.cleared (s : State) (cdet clsw : Bool) (replies : List Reply) : State :=
  { State.reset with
    pending := s.pending
    now := s.now
    moment := s.moment
    choices := s.choices
    resetPin := s.resetPin
    card := { CardPort.reset with cdet := cdet, clsw := clsw, detectFrom := if cdet then some s.now else none }
    link := { Link.reset with replies := replies, frame := s.link.frame.map fun _ => .beyond, mdo := s.link.mdo } }

/-- R126: either reset, with the levels found on the pins: every internal input found asserted is taken as an edge,
except STEP and WDATA. -/
def State.restart (s : State) (pins : BitVec 9) (cdet clsw : Bool) (replies : List Reply) : State :=
  (s.cleared cdet clsw replies).event fun x => { x with pins := pins }

/-- R179: RESET takes effect, and its reply stands alone in the reply queue. -/
def State.resetNow (s : State) : State :=
  match s.executing with
  | none => s
  | some e => s.restart s.pins s.card.cdet s.card.clsw [⟨e.code, e.tag, .ok, []⟩]

/-- R179: RESET is executing and no block transaction is in flight. -/
def State.resetDue (s : State) : Bool := s.resetWaits && s.card.transaction.isNone

/-- R109, R126, R154, R164: the hardware reset is asserted: every value is that of the reset at once, no pin is sampled,
and the outputs, ATTN and MDO are off until it ends (log entry 7). -/
def State.holdReset (s : State) : State := { s.cleared false false [] with resetPin := true }

/-- R126, R154, R164: the hardware reset ends, with the levels found on the pins. -/
def State.endReset (s : State) (pins : BitVec 9) (cdet clsw : Bool) : State :=
  { s with resetPin := false }.restart pins cdet clsw []

/-- RESET_TAKES_EFFECT (R179). -/
def execResetTakesEffect (s : State) : Host.Outcome State Fault Refusal :=
  .next (if s.resetDue then s.taken.resetNow else s.taken)

/-- HARDWARE_RESET (R109, R126, R154, R164): RESET is asserted, or ends with the levels found then. -/
def execHardwareReset (pins : Option (BitVec 9)) (cdet clsw : Bool) (s : State) : Host.Outcome State Fault Refusal :=
  .next
    (match pins with
     | none => s.taken.holdReset
     | some p => s.taken.endReset p cdet clsw)

end Sys2Proof.Machine
end

