-- ==== Sys2Proof/Machine/Card.lean ====
section
/-! DEFINITION. The Card Port (chapter 9): detect, start-up, block transactions, the arbiter, the delivery of results,
removal, and what its events do. -/

namespace Sys2Proof.Machine

/-- Changes what the Card Port holds. -/
def State.mapCard (s : State) (g : CardPort → CardPort) : State := { s with card := g s.card }

/-! ### Detect, lock switch and start-up (R141 to R143) -/

/-- R142: start-up ends with the card READY. -/
def State.cardReady (s : State) (blocks : Nat) : State :=
  (s.mapCard fun c =>
    { c with
      state := .ready, startFrom := none, exchange := none
      capacity := some (min blocks Config.maxCapacity) }).report (.bare .cardReady 0)

/-- R142: start-up ends with the card FAILED. -/
def State.cardFailed (s : State) (detail : Nat) : State :=
  (s.mapCard fun c => { c with state := .failed, startFrom := none, exchange := none }).report (.bare .cardFailed detail)

/-- R142: an exchange of start-up is sent now. -/
def State.sendExchange (s : State) (e : StartupExchange) : State :=
  s.mapCard fun c => { c with exchange := some (e, s.now) }

/-- R141, R142, R143: a card is taken into start-up. -/
def State.startCard (s : State) : State :=
  (s.mapCard fun c =>
    { c with
      state := .starting, detectFrom := none, startFrom := some s.now, power := true, lock := c.clsw }).sendExchange .resetCard

/-- R141: the detect time reaches 20 ms. -/
def State.detected (s : State) : State :=
  match s.card.detectFrom with
  | none => s
  | some t => if s.card.state = .absent then (s.runTo (t + Config.detectMs * Config.ticksPerMs)).startCard else s

/-- R142: the start-up exchange under way is answered. -/
def State.startupAnswer (s : State) (good error ready blocks512 : Bool) (blocks : Nat) : State :=
  match s.card.exchange with
  | none => s
  | some (e, _) =>
    if good = false then s.sendExchange e
    else if error then s.cardFailed 2
    else
      match e with
      | .resetCard => s.sendExchange .leaveIdle
      | .leaveIdle => if ready then s.sendExchange .identify else s.sendExchange .leaveIdle
      | .identify => if blocks512 then s.sendExchange .readCapacity else s.cardFailed 2
      | .readCapacity => if blocks = 0 then s.cardFailed 3 else s.cardReady blocks

/-- R142: the exchange under way has drawn no answer and is sent again. -/
def State.exchangeLate (s : State) : State :=
  match s.card.exchange with
  | none => s
  | some (e, t) => (s.runTo (t + Config.exchangeMs * Config.ticksPerMs)).sendExchange e

/-- R142: the start-up time reaches its limit. -/
def State.startupLate (s : State) : State :=
  match s.card.startFrom with
  | none => s
  | some t => (s.runTo (t + Config.startupMs * Config.ticksPerMs)).cardFailed 1

/-! ### The arbiter (R148, R149) -/

/-- The requests of the highest class. -/
def firstClass (rs : List Request) : List Request :=
  match (rs.map Request.cls).min? with
  | none => []
  | some c => rs.filter fun r => r.cls = c

/-- The requests of the oldest age. -/
def oldest (rs : List Request) : List Request :=
  match (rs.map Request.age).min? with
  | none => []
  | some a => rs.filter fun r => r.age = a

/-- R149: the request that the arbiter grants; among several of one class and one age the choice is free. -/
def State.granted (s : State) : Option Request :=
  let rs := oldest (firstClass s.card.requests)
  rs[Config.grantPick s.choices % rs.length]?

/-- R149: the arbiter grants while the card is READY, the port idle and the list not empty, unless a RESET or a
release is due first. -/
def State.grantable (s : State) : Bool :=
  s.card.state = .ready && s.card.transaction.isNone && !s.card.requests.isEmpty && !s.resetWaits && !s.releaseDue

/-- The stage at which an attempt of a transaction begins (R145, R147). -/
def firstStage (k : TransKind) (taken : Bool) : Stage :=
  match k with
  | .readBlock => .awaitBlock
  | .writeBlock => .awaitAnswer
  | .merge => if taken then .awaitAnswer else .awaitBlock

/-- R144, R152: the 512 bytes of the requester go to the scratch at the grant of a WRITE_BLOCK. -/
def State.loadScratch (s : State) (r : Request) : State :=
  match r.kind, r.requester with
  | .writeBlock, .flush b => s.takeBlock b
  | .writeBlock, .panel =>
    s.mapCard fun c => { c with scratch := s.executing.map fun e => (e.params.drop 4).take Config.blockBytes }
  | _, _ => s

/-- R149: a request is granted. -/
def State.grant (s : State) (r : Request) : State :=
  let s1 := (s.withdraw r.requester).mapCard fun c =>
    { c with transaction := some ⟨r.kind, r.block, r.requester, firstStage r.kind false, s.now, 1, r.range, false⟩ }
  ({ s1 with choices := s1.choices + 1 }).loadScratch r

/-- R149: the arbiter grants, when it may. -/
def State.arbitrate (s : State) : State :=
  if s.grantable then
    match s.granted with
    | none => s
    | some r => s.grant r
  else s

/-! ### The delivery of results (R150, R151, R152) -/

/-- R151: whether a card block holds a byte of the span of a buffer that is DIRTY, FLUSHING or UNSAVED. -/
def State.stale (s : State) (block : Nat) : Bool :=
  bufferIds.any fun b =>
    (s.buffer b).unsettled &&
      (match (s.buffer b).key with
       | none => false
       | some k =>
         match s.span k with
         | none => false
         | some p =>
           match imageBlockIn p.extents 0 block with
           | none => false
           | some i => p.firstBlock ≤ i && i ≤ p.lastBlock)

/-- R151, R152: the panel's command ends. -/
def State.deliverPanel (s : State) (t : Transaction) (r : Result) (block : List Byte) : State :=
  if r = .ok then
    match t.kind with
    | .readBlock => s.endCommand (if s.stale t.block then .stale else .ok) block
    | _ => s.endCommand .ok []
  else s.endDetail .cardError r.code 0xFF

/-- R62, R135: the unit of a buffer waits for its release. -/
def State.releasing (s : State) (b : BufferId) : Bool :=
  match s.eject with
  | none => false
  | some r => r.phase = .release && (s.buffer b).ofUnit r.unit

/-- R150: the final result of a transaction goes to its requester; while RESET waits, to no one (R154). -/
def State.deliver (s : State) (t : Transaction) (r : Result) (block : List Byte) : State :=
  if s.resetWaits then s
  else
    match t.requester with
    | .panel => s.deliverPanel t r block
    | .fill b => s.deliverFill b r block
    | .flush b =>
      if s.releasing b then (if r = .ok then s else s.failBlock b r)
      else State.settleService 2 (s.deliverFlush b r)

/-- R144, R150: the transaction in flight ends with its final result, and the scratch is emptied. -/
def State.finish (s : State) (t : Transaction) (r : Result) : State :=
  s.event fun x =>
    (x.mapCard fun c => { c with transaction := none, scratch := none }).deliver t r (s.card.scratch.getD [])

/-- R146, R147: an attempt has failed: the first is repeated at once. -/
def State.attemptFails (s : State) (t : Transaction) (r : Result) : State :=
  if t.attempt = 1 then
    s.mapCard fun c =>
      { c with transaction := some { t with attempt := 2, stage := firstStage t.kind t.taken, since := s.now } }
  else s.finish t r

/-! ### The events of a transaction (R145 to R147) -/

/-- The transaction in flight comes to a stage now. -/
def State.toStage (s : State) (t : Transaction) (g : Stage) : State :=
  s.mapCard fun c => { c with transaction := some { t with stage := g, since := s.now } }

/-- What follows an event at the transaction in flight, at one of some stages. -/
def State.atStage (s : State) (stages : List Stage) (g : State → Transaction → State) : State :=
  match s.card.transaction with
  | none => s
  | some t => if t.stage ∈ stages then g s t else s

/-- R145: what the port puts on the card's data line while it sends a block: the 512 bytes of the scratch and the
transfer check that it computes over them. -/
def State.sentBlock (s : State) : Option (List Byte × Word16) :=
  match s.card.transaction, s.card.scratch with
  | some t, some block => if t.stage = .sending then some (block, transferCheck block) else none
  | _, _ => none

/-- R147: the read of a merge has ended OK: the take of the block, and its write. -/
def State.mergeTake (s : State) (t : Transaction) : State :=
  let s1 :=
    match t.requester with
    | .flush b => s.takeBlock b
    | _ => s
  s1.toStage { t with taken := true } .awaitAnswer

/-- R145: a block and its transfer check have been received. -/
def State.readEnd (data : List Byte) (check : Word16) (s : State) (t : Transaction) : State :=
  let s1 := s.mapCard fun c => { c with scratch := some data }
  if transferCheck data = check then
    match t.kind with
    | .merge => s1.mergeTake t
    | _ => s1.finish t .ok
  else s1.attemptFails t .dataCheck

/-! ### Removal (R153) -/

/-- R153: the detail of CARD_REMOVED. -/
def CardState.removedDetail : CardState → Nat
  | .absent => 0
  | .starting => 1
  | .ready => 2
  | .failed => 3

/-- R153, items 1 to 7, in the order of their reports. -/
def State.dropCard (s : State) : State :=
  let s1 := (s.mapCard fun c => { CardPort.reset with clsw := c.clsw, power := c.power }).pullAll
  (s1.endCommand .noCard []).report (.bare .cardRemoved s.card.state.removedDetail)

/-- R153, R179: a card is removed; a RESET that has started takes effect at once. -/
def State.removeCard (s : State) : State :=
  if s.card.state = .absent then s
  else if s.resetWaits then { s with card := { s.card with cdet := false, transaction := none } }.resetNow
  else s.event State.dropCard

end Sys2Proof.Machine
end

