-- ==== Sys2Proof/Machine/Command.lean ====
section
/-! DEFINITION. The Command Processor and its commands (chapter 11). -/

namespace Sys2Proof.Machine

/-! ### The length check (R166) -/

/-- R166: a command of a given parameter length. -/
def State.ofLength (s : State) (ps : List Byte) (n : Nat) (g : State → State) : State :=
  if ps.length = n then g s else s.endBadParam 0x01 0xFF

/-! ### Queries (R168, R174, R177, R178) -/

/-- R168: the payload of CARD_INFO. Its four-byte capacity is sent lowest byte first (log entry 35). -/
def State.cardInfoPayload (s : State) : List Byte :=
  [s.card.state.byte] ++ longBytes (s.card.capacity.getD 0) ++ [flagByte s.card.lock]

/-- CARD_INFO is carried out (R168). -/
def State.runCardInfo (s : State) (ps : List Byte) : State := s.ofLength ps 0 fun x => x.endCommand .ok x.cardInfoPayload

/-- IDENTIFY is carried out (R174). -/
def State.runIdentify (s : State) (ps : List Byte) : State := s.ofLength ps 0 fun x => x.endCommand .ok [0x12, 0x34, 0x02]

/-- R177: the key bytes of a buffer. -/
def Buffer.keyBytes (b : Buffer) : List Byte :=
  match b.key with
  | none => [0xFF, 0xFF, 0xFF]
  | some k => [byteOf k.unit.val, byteOf k.cylinder, byteOf k.head]

/-- R177: a buffer's group and sector table. -/
def State.bufferPayload (s : State) (b : BufferId) : List Byte :=
  let x := s.buffer b
  [byteOf b.val, x.state.byte] ++ x.keyBytes ++
    [byteOf x.flushFailures, byteOf x.fillRetries, byteOf x.entries.length] ++
    x.entries.flatMap fun e => [byteOf e.number, flagByte e.dirty]

/-- R177: the payload of QUERY_CACHE. -/
def State.cachePayload (s : State) : List Byte := bufferIds.flatMap s.bufferPayload

/-- QUERY_CACHE is carried out (R177). -/
def State.runQueryCache (s : State) (ps : List Byte) : State := s.ofLength ps 0 fun x => x.endCommand .ok x.cachePayload

/-- R178: the payload of QUERY_UNIT. -/
def State.unitPayload (s : State) (u : DriveId) : List Byte :=
  let x := s.unit u
  [byteOf u.val, flagByte (s.enabled u), x.media.byte, fieldByte (x.mounted.map Fin.val), byteOf x.cylinder,
    byteOf s.head, x.motor.byte, flagByte x.latch, x.mode.byte, flagByte (s.lockOf u)]

/-- R178: the unit is checked and read. -/
def State.queryUnit (s : State) (ps : List Byte) : State :=
  match driveOf (byteAt ps 0) with
  | none => s.endBadParam 0x40 0xFF
  | some u => s.endCommand .ok (s.unitPayload u)

/-- QUERY_UNIT is carried out (R178). -/
def State.runQueryUnit (s : State) (ps : List Byte) : State := s.ofLength ps 1 fun x => x.queryUnit ps

/-! ### Formats and slots (R5 to R15, R137) -/

/-- Whether a slot references a descriptor (R1). -/
def Slot.references (x : Slot) (i : FormatId) : Bool :=
  match x.data with
  | none => false
  | some d => d.format = i

/-- R5: the lowest slot that references a descriptor. -/
def State.referencing (s : State) (i : FormatId) : Option SlotId := slotIds.find? fun n => (s.slot n).references i

/-- R5 to R8: DEFINE_FORMAT, its length being right. -/
def State.defineFormat (s : State) (ps : List Byte) : State :=
  match formatIdOf (byteAt ps 0) with
  | none => s.endBadParam 0x02 0xFF
  | some i =>
    match s.referencing i with
    | some n => s.endDetail .slotBusy n.val 0xFF
    | none =>
      match formatProblem ps with
      | some (field, item) => s.endBadParam field item
      | none => { s with formats := put s.formats i (some (formatOf ps)) }.endCommand .ok []

/-- DEFINE_FORMAT is carried out (R5, R171). -/
def State.runDefineFormat (s : State) (ps : List Byte) : State := s.ofLength ps (defineFormatLength ps) fun x => x.defineFormat ps

/-- Whether a slot is MOUNTED. -/
def Slot.isMounted : Slot → Bool
  | .mounted _ => true
  | _ => false

/-- R11, checks 5 to 7, and R14. -/
def State.describeSlot (s : State) (ps : List Byte) (n : SlotId) : State :=
  match (formatIdOf (byteAt ps 1)).bind fun i => (look s.formats i).map fun f => (i, f) with
  | none => s.endBadParam 0x02 0xFF
  | some (i, f) =>
    match flagOf (byteAt ps 2) with
    | none => s.endBadParam 0x21 0xFF
    | some prot =>
      match extentProblem f (wordAt ps 3) (s.card.capacity.getD 0) (extentsOf ps) with
      | some (field, item) => s.endBadParam field item
      | none => (s.setSlot n (.loaded ⟨i, prot, wordAt ps 3, extentsOf ps⟩)).endCommand .ok []

/-- R11: LOAD_SLOT, its length being right. -/
def State.loadSlot (s : State) (ps : List Byte) : State :=
  match slotIdOf (byteAt ps 0) with
  | none => s.endBadParam 0x20 0xFF
  | some n =>
    if s.card.state ≠ .ready then s.endCommand .noCard []
    else if (s.slot n).isMounted then s.endDetail .slotBusy n.val 0xFF
    else s.describeSlot ps n

/-- LOAD_SLOT is carried out (R11, R175). -/
def State.runLoadSlot (s : State) (ps : List Byte) : State := s.ofLength ps (loadSlotLength ps) fun x => x.loadSlot ps

/-- R15: UNLOAD_SLOT, its length being right. -/
def State.unloadSlot (s : State) (ps : List Byte) : State :=
  match slotIdOf (byteAt ps 0) with
  | none => s.endBadParam 0x20 0xFF
  | some n =>
    if (s.slot n).isMounted then s.endDetail .slotBusy n.val 0xFF else (s.setSlot n .vacant).endCommand .ok []

/-- UNLOAD_SLOT is carried out (R15, R182). -/
def State.runUnloadSlot (s : State) (ps : List Byte) : State := s.ofLength ps 1 fun x => x.unloadSlot ps

/-- The slot with its protect flag at a value (R137). -/
def Slot.withProtect (x : Slot) (prot : Bool) : Slot :=
  match x with
  | .vacant => .vacant
  | .loaded d => .loaded { d with prot := prot }
  | .mounted d => .mounted { d with prot := prot }

/-- R137: SET_PROTECT, its length being right. -/
def State.setProtect (s : State) (ps : List Byte) : State :=
  match slotIdOf (byteAt ps 0) with
  | none => s.endBadParam 0x20 0xFF
  | some n =>
    match flagOf (byteAt ps 1) with
    | none => s.endBadParam 0x21 0xFF
    | some prot =>
      if s.slot n = .vacant then s.endBadParam 0x27 0xFF
      else (s.setSlot n ((s.slot n).withProtect prot)).endCommand .ok []

/-- SET_PROTECT is carried out (R137, R181). -/
def State.runSetProtect (s : State) (ps : List Byte) : State := s.ofLength ps 2 fun x => x.setProtect ps

/-! ### MOUNT, EJECT and FLUSH (R129 to R131, R173) -/

/-- R129, check 7: the other unit's mounted slot, when it shares a card block with this one. -/
def State.sharing (s : State) (u : DriveId) (d : SlotData) : Option SlotId :=
  match (s.unit (otherUnit u)).mounted with
  | none => none
  | some n =>
    match (s.slot n).data with
    | none => none
    | some e => if d.shares e then some n else none

/-- R129, checks 7 and 8, and R130. -/
def State.present (s : State) (u : DriveId) (n : SlotId) (d : SlotData) : State :=
  match s.sharing u d with
  | some m => s.endDetail .slotBusy m.val 0xFF
  | none =>
    if s.profile.physical < ((look s.formats d.format).map Format.cylinders).getD 0 then s.endBadParam 0x06 0xFF
    else (s.event fun x => x.insertMedia u n).endCommand .ok []

/-- R129: MOUNT, its length being right. -/
def State.mount (s : State) (ps : List Byte) : State :=
  match driveOf (byteAt ps 0) with
  | none => s.endBadParam 0x40 0xFF
  | some u =>
    match slotIdOf (byteAt ps 1) with
    | none => s.endBadParam 0x20 0xFF
    | some n =>
      if s.enabled u = false ∨ (s.unit u).media ≠ .empty then s.endDetail .unitBusy u.val 0xFF
      else if s.card.state ≠ .ready then s.endCommand .noCard []
      else
        match s.slot n with
        | .loaded d => s.present u n d
        | _ => s.endDetail .slotBusy n.val 0xFF

/-- MOUNT is carried out (R129, R176). -/
def State.runMount (s : State) (ps : List Byte) : State := s.ofLength ps 2 fun x => x.mount ps

/-- R131: EJECT, its length being right. -/
def State.ejectCommand (s : State) (ps : List Byte) : State :=
  match driveOf (byteAt ps 0) with
  | none => s.endBadParam 0x40 0xFF
  | some u =>
    match ejectModeOf (byteAt ps 1) with
    | none => s.endBadParam 0x41 0xFF
    | some mode =>
      if (s.unit u).media = .empty then s.endCommand .noMedia [] else s.event fun x => x.beginEject u mode

/-- EJECT is carried out (R131, R172). -/
def State.runEject (s : State) (ps : List Byte) : State := s.ofLength ps 2 fun x => x.ejectCommand ps

/-- R173: FLUSH, its length being right. -/
def State.flushCommand (s : State) (ps : List Byte) : State :=
  match scopeOf (byteAt ps 0) with
  | none => s.endBadParam 0x40 0xFF
  | some units => s.event fun x => x.requestService units

/-- FLUSH is carried out (R173). -/
def State.runFlush (s : State) (ps : List Byte) : State := s.ofLength ps 1 fun x => x.flushCommand ps

/-! ### CARD_READ and CARD_WRITE (R151, R152) -/

/-- R151: CARD_READ, its length being right. -/
def State.cardRead (s : State) (ps : List Byte) : State :=
  if s.card.state ≠ .ready then s.endCommand .noCard []
  else if s.card.capacity.getD 0 ≤ longAt ps 0 then s.endBadParam 0x50 0xFF
  else s.post .readBlock (longAt ps 0) .panel 3 none

/-- CARD_READ is carried out (R151, R169). -/
def State.runCardRead (s : State) (ps : List Byte) : State := s.ofLength ps 4 fun x => x.cardRead ps

/-- R152: whether a card block lies in a MOUNTED slot. -/
def Slot.mountedHolds (x : Slot) (block : Nat) : Bool :=
  match x with
  | .mounted d => d.hasBlock block
  | _ => false

/-- R152: CARD_WRITE, its length being right. -/
def State.cardWrite (s : State) (ps : List Byte) : State :=
  if s.card.state ≠ .ready then s.endCommand .noCard []
  else if s.card.capacity.getD 0 ≤ longAt ps 0 then s.endBadParam 0x50 0xFF
  else
    match slotIds.find? fun n => (s.slot n).mountedHolds (longAt ps 0) with
    | some n => s.endDetail .slotBusy n.val 0xFF
    | none => if s.card.lock then s.endCommand .writeLocked [] else s.post .writeBlock (longAt ps 0) .panel 3 none

/-- CARD_WRITE is carried out (R152, R170). -/
def State.runCardWrite (s : State) (ps : List Byte) : State := s.ofLength ps 516 fun x => x.cardWrite ps

/-! ### SET_PROFILE and RESET (R124, R125, R179) -/

/-- R124: the lowest unit that is not EMPTY. -/
def State.busyUnit (s : State) : Option DriveId := driveIds.find? fun u => (s.unit u).media ≠ .empty

/-- R125: a unit's cylinder position is brought inside the physical range. -/
def State.clampCylinder (s : State) (u : DriveId) : State :=
  s.setUnit u { s.unit u with cylinder := min (s.unit u).cylinder (s.profile.physical - 1) }

/-- R125: a new profile comes into force. -/
def State.applyProfile (s : State) (p : Profile) : State := driveIds.foldl State.clampCylinder { s with profile := p }

/-- R124: SET_PROFILE, its length being right. -/
def State.profileCommand (s : State) (ps : List Byte) : State :=
  match s.busyUnit with
  | some u => s.endDetail .unitBusy u.val 0xFF
  | none =>
    match profileProblem ps with
    | some (field, item) => s.endBadParam field item
    | none =>
      (s.event fun x => x.applyProfile (profileOf ps)).endCommand .ok (profilePayload (profileOf ps))

/-- SET_PROFILE is carried out (R124, R125, R180). -/
def State.runSetProfile (s : State) (ps : List Byte) : State := s.ofLength ps 29 fun x => x.profileCommand ps

/-- R179: RESET, its length being right: it takes effect at once unless a transaction is in flight. -/
def State.resetCommand (s : State) : State := if s.resetDue then s.resetNow else s

/-- RESET is carried out (R179). -/
def State.runReset (s : State) (ps : List Byte) : State := s.ofLength ps 0 State.resetCommand

/-! ### The command queue (R159, R165) -/

/-- The executing command is this one. -/
def State.start (s : State) (q : QueuedCommand) : State := { s with executing := some ⟨q.code, q.tag, q.params⟩ }

/-- R165, R166: a command starts and is carried out, by its code. One that completes at its start does so here, before
any card removal: of the two orders that R167 allows, the model has this one (log entry 5, DESIGN CHOICE). -/
def State.carryOut (s : State) (q : QueuedCommand) : State :=
  let t := s.start q
  match q.code.toNat with
  | 1 => t.runCardInfo q.params
  | 2 => t.runCardRead q.params
  | 3 => t.runCardWrite q.params
  | 4 => t.runDefineFormat q.params
  | 5 => t.runEject q.params
  | 6 => t.runFlush q.params
  | 7 => t.runIdentify q.params
  | 8 => t.runLoadSlot q.params
  | 9 => t.runMount q.params
  | 10 => t.runQueryCache q.params
  | 11 => t.runQueryUnit q.params
  | 12 => t.runReset q.params
  | 13 => t.runSetProfile q.params
  | 14 => t.runSetProtect q.params
  | 15 => t.runUnloadSlot q.params
  | _ => t.endCommand .badCommand []

/-- R159, R165: while the Command Processor is idle and a reply has room, the front command leaves the queue and is
carried out, up to `fuel` commands. -/
def State.runQueue : Nat → State → State
  | 0, s => s
  | fuel + 1, s =>
    match s.link.commands with
    | [] => s
    | q :: rest =>
      if s.startDue then State.runQueue fuel ({ s with link := { s.link with commands := rest } }.carryOut q) else s

/-- R159, R165: the commands that may start are carried out, one after another. -/
def State.takeCommands (s : State) : State := State.runQueue s.link.commands.length s

/-- R159, R165: what the Command Processor does at the end of an event that took the part from `old` to `s`: an event
that makes both conditions of a start hold has the front command carried out at that moment. -/
def State.followQueue (old s : State) : State := if s.startDue && !old.startDue then s.takeCommands else s

/-- A row whose effect is `g`, and what the command queue makes of it. -/
def State.row (s : State) (g : State → State) : Host.Outcome State Fault Refusal := .next (State.followQueue s (g s.taken))

/-- R159: the Command Processor would start a command that joined the queue now. -/
def State.unoccupied (s : State) : Bool :=
  s.executing.isNone && s.link.commands.isEmpty && s.link.replies.length < Config.replyQueueSize

/-- A command that comes straight to an unoccupied Command Processor is carried out by `g`; to another one none comes
(log entry 4). -/
def State.direct (s : State) (q : QueuedCommand) (g : State → State) : State :=
  if s.unoccupied then g (s.start q) else s

/-- COMMAND_START (R159). -/
def execCommandStart (s : State) : Host.Outcome State Fault Refusal := .next s.taken.takeCommands

/-! ### The commands -/

/-- CARD_INFO (R168). -/
def execCardInfo (tag : Byte) (ps : List Byte) (s : State) : Host.Outcome State Fault Refusal :=
  .next (s.taken.direct ⟨0x01, tag, ps⟩ fun t => t.runCardInfo ps)

/-- CARD_READ (R151, R169). -/
def execCardRead (tag : Byte) (ps : List Byte) (s : State) : Host.Outcome State Fault Refusal :=
  .next (s.taken.direct ⟨0x02, tag, ps⟩ fun t => t.runCardRead ps)

/-- CARD_WRITE (R152, R170). -/
def execCardWrite (tag : Byte) (ps : List Byte) (s : State) : Host.Outcome State Fault Refusal :=
  .next (s.taken.direct ⟨0x03, tag, ps⟩ fun t => t.runCardWrite ps)

/-- DEFINE_FORMAT (R5, R171). -/
def execDefineFormat (tag : Byte) (ps : List Byte) (s : State) : Host.Outcome State Fault Refusal :=
  .next (s.taken.direct ⟨0x04, tag, ps⟩ fun t => t.runDefineFormat ps)

/-- EJECT (R131, R172). -/
def execEject (tag : Byte) (ps : List Byte) (s : State) : Host.Outcome State Fault Refusal :=
  .next (s.taken.direct ⟨0x05, tag, ps⟩ fun t => t.runEject ps)

/-- FLUSH (R173). -/
def execFlush (tag : Byte) (ps : List Byte) (s : State) : Host.Outcome State Fault Refusal :=
  .next (s.taken.direct ⟨0x06, tag, ps⟩ fun t => t.runFlush ps)

/-- IDENTIFY (R174). -/
def execIdentify (tag : Byte) (ps : List Byte) (s : State) : Host.Outcome State Fault Refusal :=
  .next (s.taken.direct ⟨0x07, tag, ps⟩ fun t => t.runIdentify ps)

/-- LOAD_SLOT (R11, R175). -/
def execLoadSlot (tag : Byte) (ps : List Byte) (s : State) : Host.Outcome State Fault Refusal :=
  .next (s.taken.direct ⟨0x08, tag, ps⟩ fun t => t.runLoadSlot ps)

/-- MOUNT (R129, R176). -/
def execMount (tag : Byte) (ps : List Byte) (s : State) : Host.Outcome State Fault Refusal :=
  .next (s.taken.direct ⟨0x09, tag, ps⟩ fun t => t.runMount ps)

/-- QUERY_CACHE (R177). -/
def execQueryCache (tag : Byte) (ps : List Byte) (s : State) : Host.Outcome State Fault Refusal :=
  .next (s.taken.direct ⟨0x0A, tag, ps⟩ fun t => t.runQueryCache ps)

/-- QUERY_UNIT (R178). -/
def execQueryUnit (tag : Byte) (ps : List Byte) (s : State) : Host.Outcome State Fault Refusal :=
  .next (s.taken.direct ⟨0x0B, tag, ps⟩ fun t => t.runQueryUnit ps)

/-- RESET (R179). -/
def execReset (tag : Byte) (ps : List Byte) (s : State) : Host.Outcome State Fault Refusal :=
  .next (s.taken.direct ⟨0x0C, tag, ps⟩ fun t => t.runReset ps)

/-- SET_PROFILE (R124, R125, R180). -/
def execSetProfile (tag : Byte) (ps : List Byte) (s : State) : Host.Outcome State Fault Refusal :=
  .next (s.taken.direct ⟨0x0D, tag, ps⟩ fun t => t.runSetProfile ps)

/-- SET_PROTECT (R137, R181). -/
def execSetProtect (tag : Byte) (ps : List Byte) (s : State) : Host.Outcome State Fault Refusal :=
  .next (s.taken.direct ⟨0x0E, tag, ps⟩ fun t => t.runSetProtect ps)

/-- UNLOAD_SLOT (R15, R182). -/
def execUnloadSlot (tag : Byte) (ps : List Byte) (s : State) : Host.Outcome State Fault Refusal :=
  .next (s.taken.direct ⟨0x0F, tag, ps⟩ fun t => t.runUnloadSlot ps)

/-- BAD_COMMAND (R166). A code that names a command is no such event. -/
def execBadCommand (code tag : Byte) (ps : List Byte) (s : State) : Host.Outcome State Fault Refusal :=
  .next
    (if 1 ≤ code.toNat ∧ code.toNat ≤ 15 then s.taken
    else s.taken.direct ⟨code, tag, ps⟩ fun t => t.endCommand .badCommand [])

end Sys2Proof.Machine
end

