-- ==== Sys2Proof/Machine/CardRows.lean ====
section
/-! DEFINITION. The commands that are events of the card and of the Card Port. -/

namespace Sys2Proof.Machine

/-- CARD_DETECT (R141). -/
def execCardDetect (s : State) : Host.Outcome State Fault Refusal := .next s.taken.detected

/-- CDET_CHANGE_WHILE_ABSENT (R141): the detect time counts from an assertion, and is 0 while CDET is negated. -/
def execCdetChangeWhileAbsent (level : Bool) (s : State) : Host.Outcome State Fault Refusal :=
  .next
    (if s.card.state = .absent ∧ s.card.cdet ≠ level then
      s.taken.mapCard fun c => { c with cdet := level, detectFrom := if level then some s.now else none }
    else s.taken)

/-- LOCK_SWITCH_CHANGE (R143). -/
def execLockSwitchChange (level : Bool) (s : State) : Host.Outcome State Fault Refusal :=
  .next (s.taken.mapCard fun c => { c with clsw := level, lock := if c.state = .absent then c.lock else level })

/-- STARTUP_EXCHANGE_ANSWER (R142). -/
def execStartupExchangeAnswer (good error ready blocks512 : Bool) (blocks : Nat) (s : State) :
    Host.Outcome State Fault Refusal :=
  .next (s.taken.startupAnswer good error ready blocks512 blocks)

/-- EXCHANGE_TIMEOUT (R142). -/
def execExchangeTimeout (s : State) : Host.Outcome State Fault Refusal := .next s.taken.exchangeLate

/-- STARTUP_TIMEOUT (R142). -/
def execStartupTimeout (s : State) : Host.Outcome State Fault Refusal := .next s.taken.startupLate

/-- ARBITER_GRANT (R149). -/
def execArbiterGrant (s : State) : Host.Outcome State Fault Refusal := .next s.taken.arbitrate

/-- CARD_BLOCK_BEGINS (R145). -/
def execCardBlockBegins (s : State) : Host.Outcome State Fault Refusal :=
  .next (s.taken.atStage [.awaitBlock] fun x t => x.toStage t .receiving)

/-- READ_PHASE_END (R145). A block that is not of 512 bytes cannot come. -/
def execReadPhaseEnd (data : List Byte) (check : Word16) (s : State) : Host.Outcome State Fault Refusal :=
  s.row fun x =>
    if data.length = Config.blockBytes then x.atStage [.awaitBlock, .receiving] (State.readEnd data check) else x

/-- WRITE_COMMAND_ANSWER (R145). -/
def execWriteCommandAnswer (accepted : Bool) (s : State) : Host.Outcome State Fault Refusal :=
  s.row fun x =>
    x.atStage [.awaitAnswer] fun y t =>
      if accepted then y.toStage t .sending else y.attemptFails t .writeRejected

/-- LAST_BYTE_SENT (R145). -/
def execLastByteSent (s : State) : Host.Outcome State Fault Refusal :=
  .next (s.taken.atStage [.sending] fun x t => x.toStage t .awaitResponse)

/-- DATA_RESPONSE (R145). -/
def execDataResponse (r : DataResponse) (s : State) : Host.Outcome State Fault Refusal :=
  s.row fun x =>
    x.atStage [.sending, .awaitResponse] fun y t =>
      match r with
      | .accepted => y.toStage t .busy
      | .checkFailed => y.attemptFails t .dataCheck
      | .refused => y.attemptFails t .writeRejected

/-- BUSY_END (R145). -/
def execBusyEnd (s : State) : Host.Outcome State Fault Refusal :=
  s.row fun x =>
    x.atStage [.busy] fun y t => y.finish t .ok

/-- NO_RESPONSE (R145): 100 ms have passed at a stage that has that limit. -/
def execNoResponse (s : State) : Host.Outcome State Fault Refusal :=
  s.row fun x =>
    x.atStage [.awaitBlock, .receiving, .awaitAnswer, .awaitResponse] fun y t =>
      (y.runTo (t.since + Config.exchangeMs * Config.ticksPerMs)).attemptFails t .noResponse

/-- BUSY_TIMEOUT (R145): the card has been busy for 500 ms. -/
def execBusyTimeout (s : State) : Host.Outcome State Fault Refusal :=
  s.row fun x =>
    x.atStage [.busy] fun y t =>
      (y.runTo (t.since + Config.busyMs * Config.ticksPerMs)).attemptFails t .busyTimeout

/-- UNIT_RELEASE (R62, R133, R135). -/
def execUnitRelease (s : State) : Host.Outcome State Fault Refusal :=
  s.row fun x => if x.releaseDue then x.event State.releaseNow else x

/-- CARD_REMOVAL (R153). -/
def execCardRemoval (s : State) : Host.Outcome State Fault Refusal :=
  s.row fun x => x.removeCard

end Sys2Proof.Machine
end

