-- ==== Sys2Proof/Machine/DriveRows.lean ====
section
/-! DEFINITION. The commands that are events of the drive bus, of the rotation and of the Track Cache's timers. -/

namespace Sys2Proof.Machine

/-- SELECT_CHANGE (R111). -/
def execSelectChange (u : DriveId) (level : Bool) (s : State) : Host.Outcome State Fault Refusal :=
  s.row fun x => x.setInput (selectInput u) level

/-- MOTOR_ASSERT (R116, R117). While motor follows select is on, the pin that moves is that of the select input, and none
moves a pin of the motor input alone (R108; log entry 22, the model's choice). -/
def execMotorAssert (u : DriveId) (s : State) : Host.Outcome State Fault Refusal :=
  s.row fun x => x.setInput (x.motorSource u) true

/-- MOTOR_NEGATE (R116, R117). While motor follows select is on, the pin that moves is that of the select input, as for
MOTOR_ASSERT (log entry 22, the model's choice). -/
def execMotorNegate (u : DriveId) (s : State) : Host.Outcome State Fault Refusal :=
  s.row fun x => x.setInput (x.motorSource u) false

/-- STEP (R113, R114). -/
def execStep (inward : Bool) (s : State) : Host.Outcome State Fault Refusal :=
  s.row fun x => x.stepPulse inward

/-- SIDE_CHANGE (R115). -/
def execSideChange (level : Bool) (s : State) : Host.Outcome State Fault Refusal :=
  s.row fun x => x.setInput .side level

/-- WGATE_ASSERT (R80, R122). -/
def execWgateAssert (s : State) : Host.Outcome State Fault Refusal :=
  s.row fun x => x.setInput .wgate true

/-- WGATE_NEGATE (R82, R122). -/
def execWgateNegate (s : State) : Host.Outcome State Fault Refusal :=
  s.row fun x => x.setInput .wgate false

/-- WRITE_TRANSITION (R85 to R88). -/
def execWriteTransition (ticks : Nat) (s : State) : Host.Outcome State Fault Refusal :=
  s.row fun x => x.writePulse ticks

/-- SPIN_UP_EXPIRY (R116). -/
def execSpinUpExpiry (u : DriveId) (s : State) : Host.Outcome State Fault Refusal :=
  s.row fun x => x.spinUp u

/-- SETTLE_EXPIRY (R35). -/
def execSettleExpiry (u : DriveId) (s : State) : Host.Outcome State Fault Refusal :=
  s.row fun x => x.settled u

/-- BIT_BOUNDARY (R20, R68 to R74). -/
def execBitBoundary (u : DriveId) (s : State) : Host.Outcome State Fault Refusal :=
  .next (if s.rotating u then s.taken.advanceBit u else s.taken)

/-- INDEX_ARRIVAL (R32, R49). -/
def execIndexArrival (u : DriveId) (s : State) : Host.Outcome State Fault Refusal :=
  .next (if s.rotating u then s.taken.closeRevolution u else s.taken)

/-- INDEX_REGION_END (R21, R120). -/
def execIndexRegionEnd (u : DriveId) (s : State) : Host.Outcome State Fault Refusal :=
  .next (if s.rotating u && s.inIndexRegion u then s.taken.leaveIndex u else s.taken)

/-- RESUME_HOLD_END (R76). -/
def execResumeHoldEnd (u : DriveId) (s : State) : Host.Outcome State Fault Refusal :=
  .next (if s.rotating u && (s.unit u).hold then s.taken.resume u else s.taken)

/-- EJECT_HOLD_EXPIRY (R83). -/
def execEjectHoldExpiry (s : State) : Host.Outcome State Fault Refusal :=
  s.row fun x => x.holdOver

/-- WRITE_BACK_DELAY_EXPIRY (R52, R53). -/
def execWriteBackDelayExpiry (b : BufferId) (s : State) : Host.Outcome State Fault Refusal :=
  s.row fun x => x.delayOver b

/-- DEMAND_FILL_RESUMED (R44): the waiting demand fills are taken again. -/
def execDemandFillResumed (s : State) : Host.Outcome State Fault Refusal :=
  s.row fun x => x.event State.resumeFills

/-- PREFETCH_ACTED_ON (R51): the held predictions are acted on. -/
def execPrefetchActedOn (s : State) : Host.Outcome State Fault Refusal :=
  s.row fun x => x.event State.actOnPredictions

end Sys2Proof.Machine
end

