-- ==== Sys2Proof/Machine/Link.lean ====
section
/-! DEFINITION. The Management Link (chapter 10): transactions, frames, and the commands that are its events. -/

namespace Sys2Proof.Machine

/-- Changes what the Management Link holds. -/
def State.mapLink (s : State) (g : Link → Link) : State := { s with link := g s.link }

/-- A byte is shifted out on MDO. -/
def State.shift (s : State) (b : Byte) : State := s.mapLink fun l => { l with mdo := l.mdo ++ [b] }

/-- The frame of the transaction under way. -/
def State.setFrame (s : State) (f : Frame) : State := s.mapLink fun l => { l with frame := some f }

/-- R157: FRAME_FAULT is set. -/
def State.frameFault (s : State) : State := s.mapLink fun l => { l with fault := true }

/-! ### The ends of a transaction (R155, R157) -/

/-- R155, R157: MSEL is released; a COMMAND frame that is not complete is discarded with FRAME_FAULT. -/
def State.release (s : State) : State :=
  let cut :=
    match s.link.frame with
    | some (.command _) => true
    | _ => false
  s.mapLink fun l => { l with frame := none, fault := l.fault || cut }

/-- R155, R156: MSEL is asserted, and the status byte is taken as it stands; nothing while it is asserted already. -/
def State.select (s : State) : State :=
  match s.link.frame with
  | some _ => s
  | none => s.mapLink fun l => { l with mdo := [], frame := some (.opening s.statusByte) }

/-- R155 to R157: byte 0 is complete: the status byte is shifted out, and FRAME_FAULT is cleared if it was shown, before
the kind byte is examined. -/
def State.zeroByte (s : State) (status : Byte) : State :=
  s.mapLink fun l => { l with mdo := [status], fault := l.fault && !status.getLsbD 5, frame := some .beyond }

/-- R155: a frame's row begins its transaction, when MSEL is negated, and completes byte 0, which `g` follows. In a
transaction whose byte 0 is complete it does neither (log entry 8). -/
def State.beginFrame (s : State) (g : State → State) : State :=
  let s1 := s.select
  match s1.link.frame with
  | some (.opening status) => g (s1.zeroByte status)
  | _ => s1

/-- Whether byte 0 of the transaction under way is complete. -/
def State.frameKnown (s : State) : Bool :=
  match s.link.frame with
  | none => false
  | some (.opening _) => false
  | some _ => true

/-! ### COMMAND (R158) -/

/-- R158: the declared parameter length of a COMMAND frame. -/
def declaredLength (inbound : List Byte) : Nat := wordAt inbound 2

/-- R158: a COMMAND frame is complete: it is queued, or discarded when the queue is full. -/
def State.queueCommand (s : State) (inbound : List Byte) : State :=
  if Config.commandQueueSize ≤ s.link.commands.length then (s.setFrame .beyond).frameFault
  else
    (s.setFrame .beyond).mapLink fun l =>
      { l with commands := l.commands ++ [⟨inbound.getD 0 0, inbound.getD 1 0, inbound.drop 4⟩] }

/-- R158: what the inbound bytes received so far make of a COMMAND frame. -/
def State.judgeFrame (s : State) (inbound : List Byte) : State :=
  if inbound.length < 4 then s.setFrame (.command inbound)
  else if Config.maxParams < declaredLength inbound then (s.setFrame .beyond).frameFault
  else if inbound.length < 4 + declaredLength inbound then s.setFrame (.command inbound)
  else s.queueCommand inbound

/-- R155, R158: a byte is exchanged in a transaction whose frame is a COMMAND. -/
def State.commandByte (s : State) (b : Byte) : State :=
  match s.link.frame with
  | some (.command inbound) => (s.shift 0).judgeFrame (inbound ++ [b])
  | _ => s.shift 0

/-! ### FETCH REPLY (R160) -/

/-- R160: byte 0 of a FETCH REPLY frame is complete. -/
def State.startReply (s : State) : State :=
  match s.link.replies with
  | [] => s.setFrame (.reply (List.replicate 5 0) false)
  | r :: _ => s.setFrame (.reply r.bytes true)

/-- R160: a byte is exchanged in a FETCH REPLY frame; with its last byte the reply is removed. -/
def State.replyByte (s : State) : State :=
  match s.link.frame with
  | some (.reply (b :: rest) real) =>
    let s1 := s.shift b
    if rest = [] then
      (s1.setFrame .beyond).mapLink fun l => { l with replies := if real then l.replies.tail else l.replies }
    else s1.setFrame (.reply rest real)
  | _ => s.shift 0

/-! ### FETCH REPORTS (R162) -/

/-- R162: a FETCH REPORTS frame is complete: REPORTS_LOST is cleared unless a report was dropped meanwhile. -/
def State.reportsDone (s : State) (dropped : Bool) : State :=
  s.mapLink fun l => { l with lost := l.lost && dropped, frame := some .beyond }

/-- R162: a byte is exchanged in a FETCH REPORTS frame. -/
def State.reportsByte (s : State) (b : Byte) : State :=
  match s.link.frame with
  | some (.reports none _ _) =>
    (s.shift 0).setFrame (.reports (some (min (min b.toNat Config.reportQueueSize) s.link.reports.length)) 0 false)
  | some (.reports (some c) n dropped) =>
    if n = 0 then
      let s1 := s.shift (byteOf c)
      if c = 0 then s1.reportsDone dropped else s1.setFrame (.reports (some c) 1 dropped)
    else
      match s.link.reports with
      | [] => s.shift 0
      | r :: rest =>
        let s1 := s.shift (r.bytes.getD ((n - 1) % 7) 0)
        if (n - 1) % 7 < 6 then s1.setFrame (.reports (some c) (n + 1) dropped)
        else
          let s2 := s1.mapLink fun l => { l with reports := rest }
          if n = 7 * c then s2.reportsDone dropped else s2.setFrame (.reports (some c) (n + 1) dropped)
  | _ => s.shift 0

/-! ### The bytes after byte 0 (R155) -/

/-- R155: a byte is exchanged after byte 0, by what the transaction's frame is. Beyond a frame it is ignored and 0x00
is shifted out. -/
def State.exchange (s : State) (b : Byte) : State :=
  match s.link.frame with
  | none => s
  | some (.opening _) => s
  | some .beyond => s.shift 0
  | some (.command _) => s.commandByte b
  | some (.reply _ _) => s.replyByte
  | some (.reports _ _ _) => s.reportsByte b

/-- Some bytes are exchanged after byte 0. -/
def State.exchanges (s : State) (bytes : List Byte) : State := bytes.foldl State.exchange s

/-- `n` bytes of which the panel controller's are 0x00. -/
def zeros (n : Nat) : List Byte := List.replicate n 0

/-! ### The commands -/

/-- R155, R156: `n` bytes of a transaction, counted with byte 0 while that is not complete; with none of them MSEL is
asserted and no more. -/
def State.statusFrame (s : State) (n : Nat) : State :=
  if s.frameKnown then s.exchanges (zeros n)
  else
    match n with
    | 0 => s.select
    | k + 1 => (s.beginFrame fun x => x).exchanges (zeros k)

/-- STATUS (R155, R156). -/
def execStatus (bytes : Nat) (s : State) : Host.Outcome State Fault Refusal := s.row fun x => x.statusFrame bytes

/-- COMMAND (R158). -/
def execCommand (bytes : List Byte) (s : State) : Host.Outcome State Fault Refusal :=
  s.row fun x => (x.beginFrame fun y => y.setFrame (.command [])).exchanges bytes

/-- FETCH_REPLY (R160). -/
def execFetchReply (more : Nat) (s : State) : Host.Outcome State Fault Refusal :=
  s.row fun x => (x.beginFrame State.startReply).exchanges (zeros more)

/-- FETCH_REPORTS (R162). -/
def execFetchReports (bytes : List Byte) (s : State) : Host.Outcome State Fault Refusal :=
  s.row fun x => (x.beginFrame fun y => y.setFrame (.reports none 0 false)).exchanges bytes

/-- Whether a kind byte names a frame (R155). -/
def namesFrame (kind : Byte) : Bool := kind.toNat ≤ 3

/-- UNKNOWN_FRAME_KIND (R155, R157). A kind that names a frame is no such event, nor is a byte after byte 0. -/
def execUnknownFrameKind (kind : Byte) (more : Nat) (s : State) : Host.Outcome State Fault Refusal :=
  .next
    (if namesFrame kind ∨ s.frameKnown then s.taken
    else (s.taken.beginFrame State.frameFault).exchanges (zeros more))

/-- MSEL_NEGATED (R155, R157, R162). -/
def execMselNegated (s : State) : Host.Outcome State Fault Refusal := .next s.taken.release

end Sys2Proof.Machine
end

