-- ==== Sys2Proof/Machine/Idle.lean ====
section
/-! DEFINITION. What the part does by itself while no command waits: the events that are due, one a step, and
otherwise a tick of the reference clock (log entry 1). -/

namespace Sys2Proof.Machine

/-- The state that a meaning answers; every meaning answers one. -/
def settleOutcome (s : State) (o : Host.Outcome State Fault Refusal) : State :=
  match o with
  | .next t => t
  | .fault _ => s
  | .refused _ => s

/-- Whether a moment has come. -/
def State.due (s : State) (m : Option Nat) : Bool :=
  match m with
  | none => false
  | some t => t ≤ s.now

/-- A moment so many milliseconds after another. -/
def later (m : Option Nat) (ms : Nat) : Option Nat := m.map fun t => t + ms * Config.ticksPerMs

/-- The moment at which the next bit of a turning unit begins (R20). -/
def State.nextBitMoment (s : State) (u : DriveId) : Option Nat :=
  if s.rotating u then
    (s.format u).map fun f => (s.unit u).rotationStart + f.bitTick ((s.unit u).bitCount + 1)
  else none

/-- The moment at which a DIRTY buffer's write-back delay is over (R52). -/
def State.writeBackMoment (s : State) (b : BufferId) : Option Nat :=
  if (s.buffer b).state = .dirty then later (s.buffer b).lastWrite s.profile.writeBack else none

/-- The moment at which the stage of the transaction in flight reaches its limit (R145). -/
def State.stageLimit (s : State) (stages : List Stage) (ms : Nat) : Option Nat :=
  match s.card.transaction with
  | none => none
  | some t => if t.stage ∈ stages then some (t.since + ms * Config.ticksPerMs) else none

/-- The part's own steps, in the order in which they are looked for: those that wait for nothing, then those that
wait for a moment. Each is given with whether it is due. -/
def State.ownSteps (s : State) : List (Bool × (State → Host.Outcome State Fault Refusal)) :=
  [ (s.resetDue, execResetTakesEffect)
  , (s.releaseDue, execUnitRelease)
  , (s.startDue, execCommandStart)
  , (s.grantable, execArbiterGrant)
  , (s.due (s.unit 0).spinUpDue, execSpinUpExpiry 0)
  , (s.due (s.unit 1).spinUpDue, execSpinUpExpiry 1)
  , (s.due (s.nextBitMoment 0), execBitBoundary 0)
  , (s.due (s.nextBitMoment 1), execBitBoundary 1)
  , (s.due (s.unit 0).settleDue, execSettleExpiry 0)
  , (s.due (s.unit 1).settleDue, execSettleExpiry 1)
  , (s.due s.wcu.ejectHoldDue, execEjectHoldExpiry)
  , (s.due (s.writeBackMoment 0), execWriteBackDelayExpiry 0)
  , (s.due (s.writeBackMoment 1), execWriteBackDelayExpiry 1)
  , (s.due (s.writeBackMoment 2), execWriteBackDelayExpiry 2)
  , (s.due (later s.card.detectFrom Config.detectMs), execCardDetect)
  , (s.due (later s.card.startFrom Config.startupMs), execStartupTimeout)
  , (s.due (later (s.card.exchange.map Prod.snd) Config.exchangeMs), execExchangeTimeout)
  , (s.due (s.stageLimit [.awaitBlock, .receiving, .awaitAnswer, .awaitResponse] Config.exchangeMs), execNoResponse)
  , (s.due (s.stageLimit [.busy] Config.busyMs), execBusyTimeout) ]

/-- What the part does in a step with no command waiting: the first of its own steps that is due, and otherwise the
clock goes on by one tick. -/
def State.idle (s : State) : State :=
  match s.ownSteps.find? fun p => p.1 with
  | some p => settleOutcome s (p.2 s)
  | none => { s with now := s.now + 1 }

end Sys2Proof.Machine
end

