-- ==== Sys2Proof/Machine/Dispatch.lean ====
section
/-! DEFINITION. What each command of the part does: one arm for each row of the table of operations. -/

namespace Sys2Proof.Machine

def exec (i : Instr) (s : State) : Host.Outcome State Fault Refusal :=
  match i with
  | .cardInfo tag params => Sys2Proof.Machine.execCardInfo tag params s
  | .cardRead tag params => Sys2Proof.Machine.execCardRead tag params s
  | .cardWrite tag params => Sys2Proof.Machine.execCardWrite tag params s
  | .defineFormat tag params => Sys2Proof.Machine.execDefineFormat tag params s
  | .eject tag params => Sys2Proof.Machine.execEject tag params s
  | .flush tag params => Sys2Proof.Machine.execFlush tag params s
  | .identify tag params => Sys2Proof.Machine.execIdentify tag params s
  | .loadSlot tag params => Sys2Proof.Machine.execLoadSlot tag params s
  | .mount tag params => Sys2Proof.Machine.execMount tag params s
  | .queryCache tag params => Sys2Proof.Machine.execQueryCache tag params s
  | .queryUnit tag params => Sys2Proof.Machine.execQueryUnit tag params s
  | .reset tag params => Sys2Proof.Machine.execReset tag params s
  | .setProfile tag params => Sys2Proof.Machine.execSetProfile tag params s
  | .setProtect tag params => Sys2Proof.Machine.execSetProtect tag params s
  | .unloadSlot tag params => Sys2Proof.Machine.execUnloadSlot tag params s
  | .badCommand code tag params => Sys2Proof.Machine.execBadCommand code tag params s
  | .status bytes => Sys2Proof.Machine.execStatus bytes s
  | .command bytes => Sys2Proof.Machine.execCommand bytes s
  | .fetchReply more => Sys2Proof.Machine.execFetchReply more s
  | .fetchReports bytes => Sys2Proof.Machine.execFetchReports bytes s
  | .unknownFrameKind kind more => Sys2Proof.Machine.execUnknownFrameKind kind more s
  | .mselNegated => Sys2Proof.Machine.execMselNegated s
  | .commandStart => Sys2Proof.Machine.execCommandStart s
  | .resetTakesEffect => Sys2Proof.Machine.execResetTakesEffect s
  | .hardwareReset pins cdet clsw => Sys2Proof.Machine.execHardwareReset pins cdet clsw s
  | .selectChange u level => Sys2Proof.Machine.execSelectChange u level s
  | .motorAssert u => Sys2Proof.Machine.execMotorAssert u s
  | .motorNegate u => Sys2Proof.Machine.execMotorNegate u s
  | .spinUpExpiry u => Sys2Proof.Machine.execSpinUpExpiry u s
  | .step inward => Sys2Proof.Machine.execStep inward s
  | .sideChange level => Sys2Proof.Machine.execSideChange level s
  | .wgateAssert => Sys2Proof.Machine.execWgateAssert s
  | .wgateNegate => Sys2Proof.Machine.execWgateNegate s
  | .writeTransition ticks => Sys2Proof.Machine.execWriteTransition ticks s
  | .indexArrival u => Sys2Proof.Machine.execIndexArrival u s
  | .indexRegionEnd u => Sys2Proof.Machine.execIndexRegionEnd u s
  | .settleExpiry u => Sys2Proof.Machine.execSettleExpiry u s
  | .resumeHoldEnd u => Sys2Proof.Machine.execResumeHoldEnd u s
  | .ejectHoldExpiry => Sys2Proof.Machine.execEjectHoldExpiry s
  | .writeBackDelayExpiry b => Sys2Proof.Machine.execWriteBackDelayExpiry b s
  | .demandFillResumed => Sys2Proof.Machine.execDemandFillResumed s
  | .prefetchActedOn => Sys2Proof.Machine.execPrefetchActedOn s
  | .cardDetect => Sys2Proof.Machine.execCardDetect s
  | .cardRemoval => Sys2Proof.Machine.execCardRemoval s
  | .lockSwitchChange level => Sys2Proof.Machine.execLockSwitchChange level s
  | .startupExchangeAnswer good error ready blocks512 blocks => Sys2Proof.Machine.execStartupExchangeAnswer good error ready blocks512 blocks s
  | .exchangeTimeout => Sys2Proof.Machine.execExchangeTimeout s
  | .startupTimeout => Sys2Proof.Machine.execStartupTimeout s
  | .arbiterGrant => Sys2Proof.Machine.execArbiterGrant s
  | .readPhaseEnd data check => Sys2Proof.Machine.execReadPhaseEnd data check s
  | .writeCommandAnswer accepted => Sys2Proof.Machine.execWriteCommandAnswer accepted s
  | .dataResponse r => Sys2Proof.Machine.execDataResponse r s
  | .busyEnd => Sys2Proof.Machine.execBusyEnd s
  | .noResponse => Sys2Proof.Machine.execNoResponse s
  | .busyTimeout => Sys2Proof.Machine.execBusyTimeout s
  | .unitRelease => Sys2Proof.Machine.execUnitRelease s
  | .bitBoundary u => Sys2Proof.Machine.execBitBoundary u s
  | .cdetChangeWhileAbsent level => Sys2Proof.Machine.execCdetChangeWhileAbsent level s
  | .cardBlockBegins => Sys2Proof.Machine.execCardBlockBegins s
  | .lastByteSent => Sys2Proof.Machine.execLastByteSent s

end Sys2Proof.Machine
end

