-- ==== Sys2Proof/Safety.lean ====
section
/-! DEFINITION. What a safe step and a safe state are, in the terms that statements use: the effect of a command that
ends at once, the frames of events, the failures of a card transaction, and the invariants of the part. -/

namespace Sys2Proof.Safety

open Sys2Proof.Machine

/-- A step that ends in a next state. -/
def Completes (s : State) : Prop := ∃ t, step s = .next t

/-- A command that ends in a next state. -/
def CommandCompletes (i : Instr) (s : State) : Prop := ∃ t, exec i s = .next t

/-! ### Commands of the Command Processor -/

/-- The command that a row of the Command Processor names (R166). A BAD_COMMAND row whose code names a command is
none. -/
def commandOf : Instr → Option QueuedCommand
  | .cardInfo tag ps => some ⟨0x01, tag, ps⟩
  | .cardRead tag ps => some ⟨0x02, tag, ps⟩
  | .cardWrite tag ps => some ⟨0x03, tag, ps⟩
  | .defineFormat tag ps => some ⟨0x04, tag, ps⟩
  | .eject tag ps => some ⟨0x05, tag, ps⟩
  | .flush tag ps => some ⟨0x06, tag, ps⟩
  | .identify tag ps => some ⟨0x07, tag, ps⟩
  | .loadSlot tag ps => some ⟨0x08, tag, ps⟩
  | .mount tag ps => some ⟨0x09, tag, ps⟩
  | .queryCache tag ps => some ⟨0x0A, tag, ps⟩
  | .queryUnit tag ps => some ⟨0x0B, tag, ps⟩
  | .reset tag ps => some ⟨0x0C, tag, ps⟩
  | .setProfile tag ps => some ⟨0x0D, tag, ps⟩
  | .setProtect tag ps => some ⟨0x0E, tag, ps⟩
  | .unloadSlot tag ps => some ⟨0x0F, tag, ps⟩
  | .badCommand code tag ps => if code.toNat = 0 ∨ 15 < code.toNat then some ⟨code, tag, ps⟩ else none
  | _ => none

/-- R166: the parameter length that a command must have. -/
def parameterLength (q : QueuedCommand) : Nat :=
  match q.code.toNat with
  | 2 => 4
  | 3 => 516
  | 4 => 18 + byteAt q.params 17 * byteAt q.params 8
  | 5 => 2
  | 6 => 1
  | 8 => 6 + 8 * byteAt q.params 5
  | 9 => 2
  | 11 => 1
  | 13 => 29
  | 14 => 2
  | 15 => 1
  | _ => 0

/-- The Command Processor is idle, no command waits in the queue, and a reply has room (R159). -/
def Unoccupied (s : State) : Prop := s.executing = none ∧ s.link.commands = [] ∧ s.link.replies.length < 3

/-- Nothing has changed but the number of commands taken. -/
def passed (s : State) : State := { s with moment := s.moment + 1 }

/-- A command has been carried out and has ended at once with a reply, and nothing else has changed (R160, R165). -/
def replied (s : State) (code tag : Byte) (r : ResultCode) (payload : List Byte) : State :=
  { s with
    moment := s.moment + 1
    executing := none
    link := { s.link with replies := s.link.replies ++ [⟨code, tag, r, payload⟩] } }

/-- A command has been carried out and takes time, and nothing else has changed (R165). -/
def underWay (s : State) (code tag : Byte) (ps : List Byte) : State :=
  { s with moment := s.moment + 1, executing := some ⟨code, tag, ps⟩ }

/-- The state after either reset (R126, R154, R164), with the levels found on the pins: with the default profile only
unit 0 is enabled, and its motor signal on DI7 starts its spin-up of 500 ms when it is found asserted. -/
def afterReset (s : State) (pins : BitVec 9) (cdet clsw : Bool) (replies : List Reply) : State :=
  { State.reset with
    pending := s.pending
    now := s.now
    moment := s.moment + 1
    choices := s.choices
    resetPin := s.resetPin
    pins := pins
    units :=
      #v[if pins.getLsbD 7 then { UnitState.reset with motor := .spinningUp, spinUpDue := some (s.now + 8000000) }
         else UnitState.reset, UnitState.reset]
    card := { CardPort.reset with cdet := cdet, clsw := clsw, detectFrom := if cdet then some s.now else none }
    link :=
      { Link.reset with
        replies := replies
        frame := if s.link.frame.isSome then some .beyond else none
        mdo := s.link.mdo } }

/-- The state while the hardware reset is asserted (R126, R164): the values of the reset, with no pin sampled. -/
def heldReset (s : State) : State :=
  { State.reset with
    pending := s.pending
    now := s.now
    moment := s.moment + 1
    choices := s.choices
    resetPin := true
    link := { Link.reset with frame := if s.link.frame.isSome then some .beyond else none, mdo := s.link.mdo } }

/-! ### Parameters that a command accepts -/

/-- R2, R6 to R8: the parameter bytes of a DEFINE_FORMAT that pass every check from ENCODING on. The last line is the
content P + S × B of the track against its whole bytes. -/
def FormatAllowed (ps : List Byte) : Prop :=
  let mfm := byteAt ps 1 = 1
  let rate := wordAt ps 2
  let spin := wordAt ps 4
  let c := byteAt ps 6
  let h := byteAt ps 7
  let n := byteAt ps 8
  let d := 128 * 2 ^ byteAt ps 9
  let first := byteAt ps 10
  let lead := byteAt ps 13
  let mark := byteAt ps 15
  let gap := byteAt ps 16
  byteAt ps 1 ≤ 1 ∧
  (rate = 125 ∨ rate = 250 ∨ (mfm ∧ (rate = 300 ∨ rate = 500))) ∧
  (spin = 300 ∨ spin = 360) ∧
  1 ≤ c ∧ c ≤ 96 ∧ 1 ≤ h ∧ h ≤ 2 ∧ 1 ≤ n ∧ n ≤ 64 ∧ byteAt ps 9 ≤ 3 ∧
  first + n - 1 ≤ 254 ∧
  1 ≤ byteAt ps 11 ∧ byteAt ps 11 ≤ n ∧ byteAt ps 12 ≤ n - 1 ∧ byteAt ps 14 ≤ 1 ∧ 1 ≤ gap ∧
  byteAt ps 17 ≤ h ∧
  (∀ l, l < byteAt ps 17 →
    ∀ k, k < n →
      first ≤ byteAt ps (18 + l * n + k) ∧ byteAt ps (18 + l * n + k) ≤ first + n - 1 ∧
      ∀ j, j < k → byteAt ps (18 + l * n + j) ≠ byteAt ps (18 + l * n + k)) ∧
  n * d ≤ 12288 ∧
  (if mfm then (if byteAt ps 14 = 1 then lead + 16 + mark else lead) + n * (62 + d + gap)
   else (if byteAt ps 14 = 1 then lead + 7 + mark else lead) + n * (33 + d + gap))
    ≤ rate * 1000 * 60 / spin / 8

/-- R2, R171: a descriptor as the parameter bytes of a DEFINE_FORMAT spell it. -/
def FormatRead (ps : List Byte) (f : Format) : Prop :=
  (f.enc = .mfm ↔ byteAt ps 1 = 1) ∧ f.rate = wordAt ps 2 ∧ f.spin = wordAt ps 4 ∧ f.cylinders = byteAt ps 6 ∧
  f.sides = byteAt ps 7 ∧ f.sectors = byteAt ps 8 ∧ f.sizeCode = byteAt ps 9 ∧ f.first = byteAt ps 10 ∧
  f.interleave = byteAt ps 11 ∧ f.skew = byteAt ps 12 ∧ f.leadGap = byteAt ps 13 ∧
  (f.indexMark = true ↔ byteAt ps 14 = 1) ∧ f.markGap = byteAt ps 15 ∧ f.sectorGap = byteAt ps 16 ∧
  f.lists.length = byteAt ps 17 ∧
  ∀ l, l < byteAt ps 17 → ∀ k, k < byteAt ps 8 → (f.lists.getD l []).getD k 0 = byteAt ps (18 + l * byteAt ps 8 + k)

/-- R2: the ranges that a DEFINED entry keeps, with the two capacity checks of R8. -/
def FormatSound (f : Format) : Prop :=
  (f.rate = 125 ∨ f.rate = 250 ∨ (f.enc = .mfm ∧ (f.rate = 300 ∨ f.rate = 500))) ∧
  (f.spin = 300 ∨ f.spin = 360) ∧ 1 ≤ f.cylinders ∧ f.cylinders ≤ 96 ∧ 1 ≤ f.sides ∧ f.sides ≤ 2 ∧
  1 ≤ f.sectors ∧ f.sectors ≤ 64 ∧ f.sizeCode ≤ 3 ∧ f.first + f.sectors - 1 ≤ 254 ∧
  1 ≤ f.interleave ∧ f.interleave ≤ f.sectors ∧ f.skew ≤ f.sectors - 1 ∧ 1 ≤ f.sectorGap ∧ f.lists.length ≤ f.sides ∧
  (∀ l ∈ f.lists, l.length = f.sectors ∧ l.Nodup ∧ ∀ x ∈ l, f.first ≤ x ∧ x ≤ f.first + f.sectors - 1) ∧
  f.sectors * f.size ≤ 12288 ∧ f.content ≤ f.trackBytes

/-- R12, R13: an extent list that LOAD_SLOT accepts. -/
def ExtentsAllowed (f : Format) (offset capacity : Nat) (es : List Extent) : Prop :=
  1 ≤ es.length ∧ es.length ≤ 16 ∧ (∀ e ∈ es, 1 ≤ e.count ∧ e.start + e.count ≤ capacity) ∧
  es.Pairwise (fun a b => a.start + a.count ≤ b.start ∨ b.start + b.count ≤ a.start) ∧
  offset + f.cylinders * f.sides * f.sectors * f.size ≤ 512 * (es.map Extent.count).sum

/-- R110, R124: the parameter bytes of a SET_PROFILE that pass every check of the settings. -/
def ProfileAllowed (ps : List Byte) : Prop :=
  (∀ i, i < 9 → byteAt ps i ≤ 8 ∨ byteAt ps i = 255) ∧ byteAt ps 0 ≠ 255 ∧ (byteAt ps 8 ≤ 1 ∨ byteAt ps 8 = 255) ∧
  (∀ i, i < 6 → byteAt ps (9 + i) ≤ 8 ∧ (byteAt ps (9 + i) = 3 → i ≤ 1)) ∧
  byteAt ps 15 ≤ 1 ∧ byteAt ps 16 ≤ 1 ∧ 40 ≤ byteAt ps 17 ∧ byteAt ps 17 ≤ 96 ∧ byteAt ps 21 ≤ 1 ∧
  byteAt ps 22 ≤ 1 ∧ byteAt ps 23 ≤ 1 ∧ byteAt ps 26 ≤ 1 ∧ byteAt ps 27 ≤ 1

/-- R123, R180: a profile as the parameter bytes of a SET_PROFILE spell it, its clamped values in range. -/
def ProfileRead (ps : List Byte) (p : Profile) : Prop :=
  (∀ i : Fin 9, (look p.inputs i).map Fin.val = if byteAt ps i.val = 255 then none else some (byteAt ps i.val)) ∧
  (∀ i : Fin 6, [Source.index, .track0, .wprot, .rdata, .ready, .dchg, .density, .asserted, .negated][byteAt ps
    (9 + i.val)]? = some (look p.outputs i)) ∧
  (∀ u : DriveId, look p.enables u = (byteAt ps (15 + u.val) == 1)) ∧ p.physical = byteAt ps 17 ∧
  p.spinUp = min 2000 (wordAt ps 18) ∧ p.settle = min 30 (byteAt ps 20) ∧
  (p.readyMode = .mediaOnly ↔ byteAt ps 21 = 1) ∧
  (∀ u : DriveId, look p.follows u = (byteAt ps (22 + u.val) == 1)) ∧
  p.writeBack = max 100 (min 60000 (wordAt ps 24)) ∧ p.flushOnStop = (byteAt ps 26 == 1) ∧
  p.prefetch = (byteAt ps 27 == 1) ∧ p.tolerance = max 4 (min 64 (byteAt ps 28))

/-! ### The order of the checks -/

/-- One check of a command: the field code and the item number of its failure, and whether the parameters pass it. -/
structure Check where
  field : Nat
  item : Nat
  passes : Bool

/-- The field code and the item number of the first check that fails. -/
def firstFailure : List Check → Option (Nat × Nat)
  | [] => none
  | c :: rest => if c.passes then firstFailure rest else some (c.field, c.item)

/-- R7: an order list of a DEFINE_FORMAT whose entries stand from byte `base` on: `n` different numbers of the track. -/
def orderListPasses (ps : List Byte) (base first n : Nat) : Bool :=
  (List.range n).all fun k =>
    let x := byteAt ps (base + k)
    first ≤ x && x ≤ first + n - 1 && (List.range k).all fun j => byteAt ps (base + j) != x

/-- R6 to R8: the checks of a DEFINE_FORMAT from ENCODING on, in their order. -/
def formatChecks (ps : List Byte) : List Check :=
  let mfm := byteAt ps 1 == 1
  let rate := wordAt ps 2
  let spin := wordAt ps 4
  let n := byteAt ps 8
  let d := 128 * 2 ^ byteAt ps 9
  let first := byteAt ps 10
  let gaps := fun mark : Nat => byteAt ps 13 + (if byteAt ps 14 = 1 then mark + byteAt ps 15 else 0)
  let content := if mfm then gaps 16 + n * (62 + d + byteAt ps 16) else gaps 7 + n * (33 + d + byteAt ps 16)
  [ ⟨0x03, 0xFF, byteAt ps 1 ≤ 1⟩
  , ⟨0x04, 0xFF, rate = 125 ∨ rate = 250 ∨ (mfm = true ∧ (rate = 300 ∨ rate = 500))⟩
  , ⟨0x05, 0xFF, spin = 300 ∨ spin = 360⟩
  , ⟨0x06, 0xFF, 1 ≤ byteAt ps 6 ∧ byteAt ps 6 ≤ 96⟩
  , ⟨0x07, 0xFF, 1 ≤ byteAt ps 7 ∧ byteAt ps 7 ≤ 2⟩
  , ⟨0x08, 0xFF, 1 ≤ n ∧ n ≤ 64⟩
  , ⟨0x09, 0xFF, byteAt ps 9 ≤ 3⟩
  , ⟨0x0A, 0xFF, first ≤ 254 ∧ first + n - 1 ≤ 254⟩
  , ⟨0x0B, 0xFF, 1 ≤ byteAt ps 11 ∧ byteAt ps 11 ≤ n⟩
  , ⟨0x0C, 0xFF, byteAt ps 12 ≤ n - 1⟩
  , ⟨0x0D, 0xFF, byteAt ps 14 ≤ 1⟩
  , ⟨0x0E, 0xFF, 1 ≤ byteAt ps 16⟩
  , ⟨0x0F, 0xFF, byteAt ps 17 ≤ 2 ∧ ¬ (byteAt ps 17 = 2 ∧ byteAt ps 7 = 1)⟩ ] ++
  ((List.range (byteAt ps 17)).map fun l => ⟨0x10, l, orderListPasses ps (18 + l * n) first n⟩) ++
  [ ⟨0x11, 0xFF, n * d ≤ 12288⟩, ⟨0x12, 0xFF, content ≤ rate * 1000 * 60 / spin / 8⟩ ]

/-- R12, R13: the checks of an extent list, in their order. -/
def extentChecks (f : Format) (offset capacity : Nat) (es : List Extent) : List Check :=
  [⟨0x22, 0xFF, 1 ≤ es.length ∧ es.length ≤ 16⟩] ++
  (es.mapIdx fun i e => ⟨0x23, i, e.count ≠ 0⟩) ++
  (es.mapIdx fun i e => ⟨0x24, i, e.start + e.count ≤ capacity⟩) ++
  (es.mapIdx fun i e =>
    ⟨0x25, i, (es.take i).all fun d => d.start + d.count ≤ e.start || e.start + e.count ≤ d.start⟩) ++
  [⟨0x26, 0xFF, offset + f.cylinders * f.sides * f.sectors * f.size ≤ 512 * (es.map Extent.count).sum⟩]

/-- R124: the checks of the settings of a SET_PROFILE, in their order. -/
def profileChecks (ps : List Byte) : List Check :=
  ((List.range 9).map fun i =>
    let x := byteAt ps i
    ⟨0x30, i, (x ≤ 8 ∨ x = 255) ∧ ¬ (i = 0 ∧ x = 255) ∧ (i = 8 → x ≤ 1 ∨ x = 255)⟩) ++
  ((List.range 6).map fun i => ⟨0x31, i, byteAt ps (9 + i) ≤ 8 ∧ (byteAt ps (9 + i) = 3 → i ≤ 1)⟩) ++
  ((List.range 2).map fun i => ⟨0x32, i, byteAt ps (15 + i) ≤ 1⟩) ++
  [⟨0x33, 0xFF, 40 ≤ byteAt ps 17 ∧ byteAt ps 17 ≤ 96⟩, ⟨0x34, 0xFF, byteAt ps 21 ≤ 1⟩] ++
  ((List.range 2).map fun i => ⟨0x35, i, byteAt ps (22 + i) ≤ 1⟩) ++
  ((List.range 2).map fun i => ⟨0x36, i, byteAt ps (26 + i) ≤ 1⟩)

/-! ### Payloads -/

/-- R177: the bytes that QUERY_CACHE gives for a buffer. -/
def GroupSpells (b : BufferId) (x : Buffer) (bytes : List Byte) : Prop :=
  bytes.length = 8 + 2 * x.entries.length ∧ bytes[0]? = some (BitVec.ofNat 8 b.val) ∧
  bytes[1]? = some (BitVec.ofNat 8 (match x.state with
    | .free => 0 | .filling => 1 | .valid => 2 | .dirty => 3 | .flushing => 4 | .unreadable => 5 | .unsaved => 6)) ∧
  (bytes.drop 2).take 3 = (match x.key with
    | none => [0xFF, 0xFF, 0xFF]
    | some k => [BitVec.ofNat 8 k.unit.val, BitVec.ofNat 8 k.cylinder, BitVec.ofNat 8 k.head]) ∧
  bytes[5]? = some (BitVec.ofNat 8 x.flushFailures) ∧ bytes[6]? = some (BitVec.ofNat 8 x.fillRetries) ∧
  bytes[7]? = some (BitVec.ofNat 8 x.entries.length) ∧
  ∀ (i : Nat) (h : i < x.entries.length),
    bytes[8 + 2 * i]? = some (BitVec.ofNat 8 x.entries[i].number) ∧
    bytes[9 + 2 * i]? = some (if x.entries[i].dirty then 1 else 0)

/-! ### Frames of events -/

/-- What an event outside the Media Manager leaves as it is: the waiting commands, the profile, the tables, the eject
record, each unit's media and mounted slot, the command queue, FRAME_FAULT, MDO, and the Card Port but for its request
list. The reports that stood in the queue stand at its front still. -/
def MediaSame (s t : State) : Prop :=
  t.pending = s.pending ∧ t.profile = s.profile ∧ t.formats = s.formats ∧ t.slots = s.slots ∧ t.eject = s.eject ∧
  (∀ u, (t.unit u).media = (s.unit u).media ∧ (t.unit u).mounted = (s.unit u).mounted) ∧
  t.link.commands = s.link.commands ∧ t.link.fault = s.link.fault ∧ t.link.mdo = s.link.mdo ∧
  t.card = { s.card with requests := t.card.requests } ∧ s.link.reports <+: t.link.reports

/-- The same, with the executing command and the reply queue. -/
def ManagementSame (s t : State) : Prop :=
  MediaSame s t ∧ t.executing = s.executing ∧ t.link.replies = s.link.replies

/-- A unit's cylinder position, last step direction, disk-change latch and settle are as they were. -/
def HeadSame (s t : State) (u : DriveId) : Prop :=
  (t.unit u).cylinder = (s.unit u).cylinder ∧ (t.unit u).lastDir = (s.unit u).lastDir ∧
  (t.unit u).latch = (s.unit u).latch ∧ (t.unit u).settleDue = (s.unit u).settleDue

/-- A unit's motor and spin-up timer are as they were. -/
def MotorSame (s t : State) (u : DriveId) : Prop :=
  (t.unit u).motor = (s.unit u).motor ∧ (t.unit u).spinUpDue = (s.unit u).spinUpDue

/-- No eject is in the phase HOLD, so that no close of a window goes on with one (R132). -/
def NoHold (s : State) : Prop := ∀ r, s.eject = some r → r.phase ≠ .hold

/-- R66: every unit's read stream mode is the one that its conditions give. -/
def ModesTaken (s : State) : Prop := ∀ u, (s.unit u).mode = s.modeOf u

/-- R108: an internal input is assigned a pin that no other internal input is assigned. -/
def OnOwnPin (s : State) (i : Input) (p : InPin) : Prop := s.pinOf i = some p ∧ ∀ j, s.pinOf j = some p → j = i

/-- One sampled pin has taken a level, and every other has the level it had. -/
def PinTaken (s t : State) (p : InPin) (level : Bool) : Prop :=
  ∀ q : InPin, t.pins.getLsbD q.val = if q = p then level else s.pins.getLsbD q.val

/-- R155: the transaction that a row finds at its beginning has its byte 0 still to come, and shifts out `st` as that:
MSEL is negated, or asserted with `st` taken. -/
def OpensWith (s : State) (st : Byte) : Prop :=
  (s.link.frame = none ∧ st = s.statusByte) ∨ s.link.frame = some (.opening st)

/-! ### The rotation (R20) -/

/-- R20: a turning unit has come from `x` to `y` by a moment: the bit of `y` is the last that has begun, or that of `x`
still, where `x` was ahead. -/
def Turned (f : Format) (x y : UnitState) (now : Nat) : Prop :=
  y.rotationStart = x.rotationStart ∧ x.bitCount ≤ y.bitCount ∧
  (x.bitCount < y.bitCount → x.rotationStart + y.bitCount * 16000000 / (f.rate * 1000) ≤ now) ∧
  now < x.rotationStart + (y.bitCount + 1) * 16000000 / (f.rate * 1000)

/-- R20, R29: a unit has followed the clock from `s` to `t`: it has turned, or stands as it stood. -/
def UnitTurned (s t : State) (u : DriveId) : Prop :=
  (s.rotating u = false → t.unit u = s.unit u) ∧
  ∀ f, s.rotating u = true → s.format u = some f → 0 < f.rate → (s.unit u).rotationStart ≤ t.now →
    Turned f (s.unit u) (t.unit u) t.now

/-! ### Flushes (R54, R55, R107) -/

/-- R54: the bytes that a take of the block in hand of a buffer gives, where the block held `before`. -/
def BlockTaken (x : Buffer) (p : Span) (before bytes : List Byte) : Prop :=
  bytes.length = 512 ∧
  (∀ o, o < 512 → (512 * x.block + o < p.start ∨ p.start + p.length ≤ 512 * x.block + o) →
    bytes.getD o 0 = before.getD o 0) ∧
  ∀ o e, o < 512 → p.start ≤ 512 * x.block + o → 512 * x.block + o < p.start + p.length →
    x.entries.find? (fun v => v.number = p.first + (512 * x.block + o - p.start) / p.size) = some e →
    bytes.getD o 0 = e.data.getD ((512 * x.block + o - p.start) % p.size) 0

/-- The first and the last image block of a sector (R17). -/
def sectorBlocks (p : Span) (e : Entry) : Nat × Nat :=
  let start := p.start + (e.number - p.first) * p.size
  (start / 512, (start + p.size - 1) / 512)

/-- R107, log entry 36: each block of a sector that lies below `n`, where the attempt stood when its last accepted format
capture came, holds a byte of a flagged sector that ends below `n`: the later attempt for that one writes it again. -/
def takenAgain (x : Buffer) (p : Span) (n : Nat) (e : Entry) : Prop :=
  ∀ blk, blk < n → (sectorBlocks p e).1 ≤ blk → blk ≤ (sectorBlocks p e).2 →
    ∃ d ∈ x.entries, d.dirty = true ∧ (sectorBlocks p d).1 ≤ blk ∧ blk ≤ (sectorBlocks p d).2 ∧ (sectorBlocks p d).2 < n

/-- R55: a sector's flag is cleared at the take of the block in hand: it is the sector's last block, and the sector has
no failed block in the attempt. R107: unless a block of it would then be left as it was before a format capture. -/
def flagCleared (x : Buffer) (p : Span) (e : Entry) : Prop :=
  (sectorBlocks p e).2 = x.block ∧ e.number ∉ x.attempt.failed ∧ ∀ n ∈ x.attempt.formatted, takenAgain x p n e

/-- R55: the flags of a buffer at the take of its block in hand; nothing else of it but the attempt's progress
changes. -/
def FlagsTaken (x y : Buffer) (p : Span) : Prop :=
  y = { x with entries := y.entries, attempt := y.attempt } ∧
  y.entries.length = x.entries.length ∧
  (∀ (i : Nat) (e : Entry), x.entries[i]? = some e →
    (flagCleared x p e → y.entries[i]? = some { e with dirty := false }) ∧
    (¬ flagCleared x p e → y.entries[i]? = some e)) ∧
  y.attempt.failed = x.attempt.failed ∧ y.attempt.failure = x.attempt.failure ∧
  y.attempt.formatted = x.attempt.formatted ∧ y.attempt.lastTake = some x.block

/-! ### Transactions of the card (R145) -/

/-- R145: the result that an event gives to an attempt which stands at a stage, when it ends the attempt without
success. -/
def failureAt : Instr → Stage → Option Result
  | .noResponse, .awaitBlock => some .noResponse
  | .noResponse, .receiving => some .noResponse
  | .noResponse, .awaitAnswer => some .noResponse
  | .noResponse, .awaitResponse => some .noResponse
  | .busyTimeout, .busy => some .busyTimeout
  | .writeCommandAnswer false, .awaitAnswer => some .writeRejected
  | .dataResponse .checkFailed, .sending => some .dataCheck
  | .dataResponse .checkFailed, .awaitResponse => some .dataCheck
  | .dataResponse .refused, .sending => some .writeRejected
  | .dataResponse .refused, .awaitResponse => some .writeRejected
  | .readPhaseEnd data check, .awaitBlock =>
    if data.length = 512 ∧ crc 0 data ≠ check then some .dataCheck else none
  | .readPhaseEnd data check, .receiving =>
    if data.length = 512 ∧ crc 0 data ≠ check then some .dataCheck else none
  | _, _ => none

/-! ### Invariants -/

/-- R159 to R161: the queues keep their sizes, with room for the reply of the executing command, and no command waits
that could have started. -/
def LinkBounded (s : State) : Prop :=
  s.startDue = false ∧
  s.link.commands.length ≤ 3 ∧ s.link.replies.length + (if s.executing.isSome then 1 else 0) ≤ 3 ∧
  s.link.reports.length ≤ 16

/-- R110, R113, R123: the profile keeps its ranges and restrictions, and every cylinder position lies below the
physical cylinders. -/
def ProfileValid (s : State) : Prop :=
  40 ≤ s.profile.physical ∧ s.profile.physical ≤ 96 ∧ s.profile.spinUp ≤ 2000 ∧ s.profile.settle ≤ 30 ∧
  100 ≤ s.profile.writeBack ∧ s.profile.writeBack ≤ 60000 ∧ 4 ≤ s.profile.tolerance ∧ s.profile.tolerance ≤ 64 ∧
  s.pinOf .sel0 ≠ none ∧ (∀ p, s.pinOf .wdata = some p → p.val ≤ 1) ∧
  (∀ o : OutPin, look s.profile.outputs o = .rdata → o.val ≤ 1) ∧
  ∀ u, (s.unit u).cylinder < s.profile.physical

/-- R140 to R145, R153: the items of the Card Port go together. -/
def CardConsistent (s : State) : Prop :=
  (s.card.capacity.isSome = true ↔ s.card.state = .ready) ∧
  (∀ n, s.card.capacity = some n → 1 ≤ n ∧ n ≤ 4294967295) ∧
  (s.card.startFrom.isSome = true ↔ s.card.state = .starting) ∧
  (s.card.exchange.isSome = true ↔ s.card.state = .starting) ∧
  (s.card.detectFrom.isSome = true ↔ s.card.state = .absent ∧ s.card.cdet = true) ∧
  (s.card.transaction.isSome = true → s.card.state = .ready) ∧
  (s.card.scratch.isSome = true → s.card.transaction.isSome = true) ∧
  (s.card.state ≠ .absent → s.card.cdet = true) ∧
  s.card.lock = (s.card.clsw && s.card.state ≠ .absent)

/-- The Command Processor waits for the card (R151, R152): a request of its own, or a transaction of its own, is
outstanding. -/
def panelWaits (s : State) : Prop := s.inFlight = some .panel ∨ ∃ r ∈ s.card.requests, r.requester = .panel

/-- R10, R119, R127: units, slots, formats and the eject record go together; the commands that take time are executing
while what they wait for is outstanding (R58, R148, R165). -/
def MediaConsistent (s : State) : Prop :=
  (∀ u, (s.unit u).media = .empty ↔ (s.unit u).mounted = none) ∧
  (∀ u n, (s.unit u).mounted = some n → ∃ d, s.slot n = .mounted d) ∧
  (∀ n d, s.slot n = .mounted d → ∃ u, (s.unit u).mounted = some n) ∧
  (∀ n, (s.unit 0).mounted = some n → (s.unit 1).mounted ≠ some n) ∧
  (∀ n d, (s.slot n).data = some d → (look s.formats d.format).isSome = true) ∧
  (∀ u, (s.unit u).media ≠ .ready → (s.unit u).latch = true) ∧
  (∀ u, s.enabled u = false → (s.unit u).media = .empty) ∧
  (∀ u, (s.unit u).media = .ejecting ↔ s.eject.map EjectRecord.unit = some u) ∧
  (s.eject.isSome = true → ∃ tag ps, s.executing = some ⟨0x05, tag, ps⟩) ∧
  (s.cache.service.isSome = true →
    s.eject.map EjectRecord.phase = some .save ∨
      (s.eject = none ∧ ∃ tag ps, s.executing = some ⟨0x06, tag, ps⟩)) ∧
  (panelWaits s → ∃ code tag ps, (code = 0x02 ∨ code = 0x03) ∧ s.executing = some ⟨code, tag, ps⟩) ∧
  (s.inFlight = some .panel → ∀ r ∈ s.card.requests, r.requester ≠ .panel)

/-- R65, R66, R29: every unit's mode is that of its conditions, a QUIET unit is silent, and the position of a unit that
does not turn is 0. -/
def StreamsConsistent (s : State) : Prop :=
  ModesTaken s ∧
  (∀ u, (s.unit u).mode = .quiet →
    (s.unit u).prevBit = false ∧ (s.unit u).hold = false ∧ (s.unit u).clockCell = false ∧
    (s.unit u).dataCell = false) ∧
  ∀ u, s.rotating u = false → (s.unit u).bitCount = 0

/-- R148: a requester has at most one request in the list or in flight, and the buffer that a request is for is in the
state that asks for it (R45, R47, R53). The list holds at most four. -/
def ArbiterConsistent (s : State) : Prop :=
  (s.card.requests.map Request.requester).Nodup ∧
  (∀ q ∈ s.inFlight, q ∉ s.card.requests.map Request.requester) ∧
  (∀ b, Requester.fill b ∈ s.card.requests.map Request.requester →
    (s.buffer b).state = .filling ∧ (s.buffer b).fate = .kept) ∧
  (∀ b, Requester.flush b ∈ s.card.requests.map Request.requester → (s.buffer b).state = .flushing) ∧
  (∀ b, s.inFlight = some (.fill b) → (s.buffer b).state = .filling) ∧
  (∀ b, s.inFlight = some (.flush b) → (s.buffer b).state = .flushing) ∧
  (∀ b, (s.buffer b).fate ≠ .kept →
    (s.buffer b).state = .filling ∧ (s.inFlight = some (.fill b) ∨ s.resetWaits = true)) ∧
  s.card.requests.length ≤ 4

/-- A fill that goes on is at class 1 or 5 (R38), one whose key no unit demands at class 5 (R46, R51). Every demand key is
held by a buffer, or its fill waits, or a buffer is promised to it (R43 to R45), and between commands no pass over the
waiting fills is owed (R44). A set dirty flag stands only in a buffer that is DIRTY, FLUSHING or UNSAVED (R39, R59), and
every final failure that is held has a serial number below the next one's (R173, log entry 25). -/
def CacheConsistent (s : State) : Prop :=
  (∀ b, (s.buffer b).fills = true → (s.buffer b).fillClass = some 1 ∨ (s.buffer b).fillClass = some 5) ∧
  (∀ b, s.current b = false → (s.buffer b).fills = true → (s.buffer b).fillClass = some 5) ∧
  (∀ u, ∀ k ∈ s.demand u,
    (s.holder k).isSome = true ∨ u ∈ s.cache.waiting ∨ ∃ b, (s.buffer b).fate = .promised u) ∧
  s.cache.passDue = false ∧
  (∀ b, (s.buffer b).state ∉ [.dirty, .flushing, .unsaved] → ∀ e ∈ (s.buffer b).entries, e.dirty = false) ∧
  (∀ b, ∀ f ∈ (s.buffer b).attempt.failure, f.1 < s.cache.failSerial) ∧
  ∀ v ∈ s.cache.service, ∀ f ∈ v.failure, f.1 < s.cache.failSerial

/-- The arbiter's list and the track buffers go together. -/
def RequestsConsistent (s : State) : Prop := ArbiterConsistent s ∧ CacheConsistent s

/-- R82, R112, R132: the port is in select conflict exactly while both units are selected, the unit of an open window is
AT_SPEED, and the unit of an eject that has left HOLD has no open window. -/
def BusConsistent (s : State) : Prop :=
  (s.conflict = .conflict ↔ s.selected 0 = true ∧ s.selected 1 = true) ∧
  (∀ w ∈ s.wcu.window, (s.unit w.key.unit).motor = .atSpeed) ∧
  ∀ r ∈ s.eject, r.phase ≠ .hold → ∀ w ∈ s.wcu.window, w.key.unit ≠ r.unit

end Sys2Proof.Safety
end

