-- ==== Sys2Proof/Certificates/Slice0/Obligations.lean ====
section
/-! DEFINITION. The statements about the part that are left to be proved. -/

open Sys2Proof Sys2Proof.Machine Sys2Proof.Safety

/-- spec/95_what_each_step_holds.md: the commands are taken one at a time, each whole. The queue and what happens when
it is empty are the model's (log entry 1). -/
def Obligations.StepRunsFrontCommand : Prop :=
  ∀ s : State,
    (∀ (c : Instr) (rest : List Instr), s.pending = c :: rest → step s = exec c { s with pending := rest }) ∧
    (s.pending = [] →
      (∀ p, s.ownSteps.find? (fun p => p.1) = some p → step s = p.2 s) ∧
      (s.ownSteps.find? (fun p => p.1) = none → step s = .next { s with now := s.now + 1 }))

/-- No command of the part stops it (log entry 28); the counters are the model's (log entries 2 and 25). -/
def Obligations.EveryCommandCompletes : Prop :=
  ∀ (c : Instr) (s : State),
    ∃ t, exec c s = .next t ∧ t.pending = s.pending ∧ t.moment = s.moment + 1 ∧ s.now ≤ t.now

/-- The reset values of R1, R9, R29, R34, R38, R65, R79, R99, R110, R113, R116, R119, R123, R127, R140 and R164; the
input levels are the model's (log entry 6). -/
def Obligations.ResetValues : Prop :=
  let s := State.reset
  [0, 1, 2, 3, 4, 5, 6, 7, 8].map (fun i => (look s.profile.inputs i).map Fin.val) =
    [some 5, some 6, some 7, some 8, some 1, some 2, some 4, some 3, some 0] ∧
  [0, 1, 2, 3, 4, 5].map (look s.profile.outputs) = [.rdata, .index, .track0, .wprot, .dchg, .negated] ∧
  s.enabled 0 = true ∧ s.enabled 1 = false ∧ s.profile.physical = 82 ∧ s.profile.spinUp = 500 ∧
  s.profile.settle = 15 ∧ s.profile.readyMode = .mediaAndSpeed ∧ (∀ u, look s.profile.follows u = false) ∧
  s.profile.writeBack = 2000 ∧ s.profile.flushOnStop = true ∧ s.profile.prefetch = true ∧ s.profile.tolerance = 16 ∧
  s.conflict = .none ∧
  (∀ u, (s.unit u).cylinder = 0 ∧ (s.unit u).motor = .stopped ∧ (s.unit u).spinUpDue = none ∧ (s.unit u).latch = true ∧
    (s.unit u).lastDir = .inward ∧ s.position u = 0 ∧ (s.unit u).settleDue = none ∧ (s.unit u).mode = .quiet ∧
    (s.unit u).prevBit = false ∧ (s.unit u).hold = false ∧ (s.unit u).media = .empty ∧ (s.unit u).mounted = none) ∧
  (∀ b, (s.buffer b).state = .free ∧ (s.buffer b).key = none ∧ (s.buffer b).entries = [] ∧
    (s.buffer b).fillClass = none ∧ (s.buffer b).flushClass = none ∧ (s.buffer b).lastWrite = none ∧
    (s.buffer b).flushFailures = 0 ∧ (s.buffer b).fillRetries = 0 ∧ (s.buffer b).recency = none) ∧
  s.cache.recency = 0 ∧ (∀ u, look s.cache.predictions u = none) ∧ s.cache.waiting = [] ∧ s.cache.service = none ∧
  s.wcu.window = none ∧ s.wcu.ejectHoldDue = none ∧ s.wcu.capture = .idle ∧ s.wcu.progress = none ∧
  s.wcu.markPos = none ∧ s.wcu.slot = none ∧ s.wcu.sector = none ∧ s.wcu.fieldBytes = [] ∧ s.wcu.remainder = none ∧
  s.wcu.period = none ∧ s.wcu.locked = false ∧ s.wcu.run = 0 ∧ s.wcu.refEdge = none ∧ s.wcu.pending = none ∧
  s.wcu.fmt.start = none ∧ s.wcu.fmt.phase = none ∧ s.wcu.fmt.entries = [] ∧ s.wcu.fmt.overflow = false ∧
  s.wcu.fmt.owner = none ∧ s.wcu.fmt.received = 0 ∧ s.wcu.fmt.remainder = none ∧ s.wcu.fmt.firstByte = none ∧
  s.wcu.fmt.uniform = true ∧
  (∀ i, look s.formats i = none) ∧ (∀ n, s.slot n = .vacant) ∧ s.eject = none ∧
  s.card.state = .absent ∧ s.card.detectFrom = none ∧ s.card.startFrom = none ∧ s.card.capacity = none ∧
  s.card.lock = false ∧ s.card.requests = [] ∧ s.card.transaction = none ∧ s.card.scratch = none ∧
  s.link.commands = [] ∧ s.link.replies = [] ∧ s.link.reports = [] ∧ s.link.lost = false ∧ s.link.fault = false ∧
  s.executing = none

/-- R109, R126, R154, R164, R179: both resets (log entries 7, 32 and 33). -/
def Obligations.ResetsTaken : Prop :=
  (∀ (s : State) (pins : BitVec 9) (cdet clsw : Bool),
    exec (.hardwareReset (some pins) cdet clsw) s = .next (afterReset { s with resetPin := false } pins cdet clsw []) ∧
    exec (.hardwareReset none cdet clsw) s = .next (heldReset s) ∧ (heldReset s).attn = false ∧
    (heldReset s).mdoDriven = false ∧ ∀ o, (heldReset s).output o = false) ∧
  ∀ (s : State) (tag : Byte),
    let taken := fun cdet : Bool => afterReset s s.pins cdet s.card.clsw [⟨0x0C, tag, .ok, []⟩]
    (Unoccupied s →
      (s.card.transaction = none → exec (.reset tag []) s = .next (taken s.card.cdet)) ∧
      (s.card.transaction ≠ none → exec (.reset tag []) s = .next (underWay s 0x0C tag []))) ∧
    (s.executing = some ⟨0x0C, tag, []⟩ →
      (s.card.transaction = none → exec .resetTakesEffect s = .next (taken s.card.cdet)) ∧
      (s.card.transaction ≠ none → exec .resetTakesEffect s = .next (passed s)) ∧
      exec .arbiterGrant s = .next (passed s) ∧
      (s.card.state ≠ .absent → exec .cardRemoval s = .next (taken false)))

/-- R159, R165: one command executes at a time, from the front of the queue, with room for its reply (log entries 4, 5
and 33). -/
def Obligations.CommandsCarriedOut : Prop :=
  (∀ s t : State,
    let may := fun x : State => x.executing = none ∧ x.link.commands ≠ [] ∧ x.link.replies.length < 3
    (∀ q rest, s.link.commands = q :: rest → s.executing = none → s.link.replies.length < 3 →
      s.takeCommands = ({ s with link := { s.link with commands := rest } }.carryOut q).takeCommands) ∧
    (¬ may s → s.takeCommands = s) ∧
    exec .commandStart s = .next (passed s).takeCommands ∧
    (may t → ¬ may s → State.followQueue s t = t.takeCommands) ∧
    (may s ∨ ¬ may t → State.followQueue s t = t)) ∧
  ∀ (i : Instr) (q : QueuedCommand) (s : State), commandOf i = some q →
    (Unoccupied s → exec i s = .next ((passed s).carryOut q)) ∧
    (¬ Unoccupied s → exec i s = .next (passed s)) ∧
    ((s.carryOut q).executing = none ∨ (s.carryOut q).executing = some ⟨q.code, q.tag, q.params⟩)

/-- R166: the length check of every command, and the answer to a code that names no command. -/
def Obligations.BadCommandsRefused : Prop :=
  ∀ (i : Instr) (q : QueuedCommand) (s : State), commandOf i = some q → Unoccupied s →
    (1 ≤ q.code.toNat → q.code.toNat ≤ 15 → q.params.length ≠ parameterLength q →
      exec i s = .next (replied s q.code q.tag .badParam [0x01, 0xFF])) ∧
    ((q.code.toNat = 0 ∨ 15 < q.code.toNat) → exec i s = .next (replied s q.code q.tag .badCommand []))

/-- R168: CARD_INFO. That the capacity's four bytes go lowest first is the model's choice (log entry 35). -/
def Obligations.CardInfoAnswered : Prop :=
  ∀ (s : State) (tag : Byte), CardConsistent s → Unoccupied s →
    ∃ st b1 b2 b3 b4 lk : Byte,
      exec (.cardInfo tag []) s = .next (replied s 0x01 tag .ok [st, b1, b2, b3, b4, lk]) ∧
      st = BitVec.ofNat 8 (match s.card.state with
        | .absent => 0 | .starting => 1 | .ready => 2 | .failed => 3) ∧
      b1.toNat + 256 * b2.toNat + 65536 * b3.toNat + 16777216 * b4.toNat =
        (if s.card.state = .ready then s.card.capacity.getD 0 else 0) ∧
      lk = (if s.card.lock then 1 else 0)

/-- R174: IDENTIFY. -/
def Obligations.IdentifyAnswered : Prop :=
  ∀ (s : State) (tag : Byte), Unoccupied s →
    exec (.identify tag []) s = .next (replied s 0x07 tag .ok [0x12, 0x34, 2])

/-- R177: QUERY_CACHE; R178: QUERY_UNIT. -/
def Obligations.QueriesAnswered : Prop :=
  (∀ (s : State) (tag x : Byte), Unoccupied s →
    (1 < x.toNat → exec (.queryUnit tag [x]) s = .next (replied s 0x0B tag .badParam [0x40, 0xFF])) ∧
    ∀ u : DriveId, x = BitVec.ofNat 8 u.val →
      exec (.queryUnit tag [x]) s =
        .next (replied s 0x0B tag .ok
          [ x
          , if s.enabled u then 1 else 0
          , BitVec.ofNat 8 (match (s.unit u).media with | .empty => 0 | .ready => 1 | .ejecting => 2)
          , match (s.unit u).mounted with
            | none => 0xFF
            | some n => BitVec.ofNat 8 n.val
          , BitVec.ofNat 8 (s.unit u).cylinder
          , if s.level .side then 1 else 0
          , BitVec.ofNat 8 (match (s.unit u).motor with | .stopped => 0 | .spinningUp => 1 | .atSpeed => 2)
          , if (s.unit u).latch then 1 else 0
          , BitVec.ofNat 8 (match (s.unit u).mode with | .quiet => 0 | .filler => 1 | .track => 2)
          , if s.wcu.locked && (s.wcu.window.map fun w => w.key.unit) == some u then 1 else 0 ])) ∧
  ∀ (s : State) (tag : Byte), Unoccupied s →
    ∃ g0 g1 g2 : List Byte,
      exec (.queryCache tag []) s = .next (replied s 0x0A tag .ok (g0 ++ g1 ++ g2)) ∧
      GroupSpells 0 (s.buffer 0) g0 ∧ GroupSpells 1 (s.buffer 1) g1 ∧ GroupSpells 2 (s.buffer 2) g2

/-- R5 to R8, R171: DEFINE_FORMAT; the parameters that pass are FormatAllowed, the checks in their order formatChecks.
-/
def Obligations.FormatDefined : Prop :=
  ∀ (s : State) (tag : Byte) (ps : List Byte), Unoccupied s →
    ps.length = 18 + byteAt ps 17 * byteAt ps 8 →
    (3 < byteAt ps 0 → exec (.defineFormat tag ps) s = .next (replied s 0x04 tag .badParam [0x02, 0xFF])) ∧
    ∀ i : FormatId, byteAt ps 0 = i.val →
      (∀ n : SlotId, (s.slot n).data.map SlotData.format = some i →
        (∀ m : SlotId, m < n → (s.slot m).data.map SlotData.format ≠ some i) →
        exec (.defineFormat tag ps) s = .next (replied s 0x04 tag .slotBusy [BitVec.ofNat 8 n.val, 0xFF])) ∧
      ((∀ n : SlotId, (s.slot n).data.map SlotData.format ≠ some i) →
        (¬ FormatAllowed ps → ∃ field item, firstFailure (formatChecks ps) = some (field, item) ∧
          exec (.defineFormat tag ps) s =
            .next (replied s 0x04 tag .badParam [BitVec.ofNat 8 field, BitVec.ofNat 8 item])) ∧
        (FormatAllowed ps → ∃ f : Format, FormatRead ps f ∧
          exec (.defineFormat tag ps) s =
            .next { replied s 0x04 tag .ok [] with formats := put s.formats i (some f) }))

/-- R11 to R14, R175: LOAD_SLOT; the extent lists that pass are ExtentsAllowed, the checks in their order
extentChecks. -/
def Obligations.SlotLoaded : Prop :=
  ∀ (s : State) (tag : Byte) (ps : List Byte), Unoccupied s → ps.length = 6 + 8 * byteAt ps 5 →
    (7 < byteAt ps 0 → exec (.loadSlot tag ps) s = .next (replied s 0x08 tag .badParam [0x20, 0xFF])) ∧
    ∀ n : SlotId, byteAt ps 0 = n.val →
      (s.card.state ≠ .ready → exec (.loadSlot tag ps) s = .next (replied s 0x08 tag .noCard [])) ∧
      (s.card.state = .ready →
        (∀ d, s.slot n = .mounted d →
          exec (.loadSlot tag ps) s = .next (replied s 0x08 tag .slotBusy [BitVec.ofNat 8 n.val, 0xFF])) ∧
        ((∀ d, s.slot n ≠ .mounted d) →
          ((3 < byteAt ps 1 ∨ ∃ i : FormatId, byteAt ps 1 = i.val ∧ look s.formats i = none) →
            exec (.loadSlot tag ps) s = .next (replied s 0x08 tag .badParam [0x02, 0xFF])) ∧
          ∀ (i : FormatId) (f : Format), byteAt ps 1 = i.val → look s.formats i = some f →
            (1 < byteAt ps 2 → exec (.loadSlot tag ps) s = .next (replied s 0x08 tag .badParam [0x21, 0xFF])) ∧
            (byteAt ps 2 ≤ 1 →
              (¬ ExtentsAllowed f (wordAt ps 3) (s.card.capacity.getD 0) (extentsOf ps) → ∃ field item,
                firstFailure (extentChecks f (wordAt ps 3) (s.card.capacity.getD 0) (extentsOf ps)) =
                  some (field, item) ∧
                exec (.loadSlot tag ps) s =
                  .next (replied s 0x08 tag .badParam [BitVec.ofNat 8 field, BitVec.ofNat 8 item])) ∧
              (ExtentsAllowed f (wordAt ps 3) (s.card.capacity.getD 0) (extentsOf ps) →
                exec (.loadSlot tag ps) s =
                  .next
                    { replied s 0x08 tag .ok [] with
                      slots := put s.slots n
                        (.loaded ⟨i, byteAt ps 2 == 1, wordAt ps 3, extentsOf ps⟩) }))))

/-- R15, R182: UNLOAD_SLOT; R137, R181: SET_PROTECT. -/
def Obligations.SlotsKept : Prop :=
  ∀ (s : State) (tag x y : Byte),
    (Unoccupied s →
      (7 < x.toNat → exec (.unloadSlot tag [x]) s = .next (replied s 0x0F tag .badParam [0x20, 0xFF])) ∧
      ∀ n : SlotId, x = BitVec.ofNat 8 n.val →
        (∀ d, s.slot n = .mounted d → exec (.unloadSlot tag [x]) s = .next (replied s 0x0F tag .slotBusy [x, 0xFF])) ∧
        ((∀ d, s.slot n ≠ .mounted d) →
          exec (.unloadSlot tag [x]) s =
            .next { replied s 0x0F tag .ok [] with slots := put s.slots n .vacant })) ∧
    (Unoccupied s →
      (7 < x.toNat → exec (.setProtect tag [x, y]) s = .next (replied s 0x0E tag .badParam [0x20, 0xFF])) ∧
      ∀ n : SlotId, x = BitVec.ofNat 8 n.val →
        (1 < y.toNat → exec (.setProtect tag [x, y]) s = .next (replied s 0x0E tag .badParam [0x21, 0xFF])) ∧
        (y.toNat ≤ 1 →
          (s.slot n = .vacant → exec (.setProtect tag [x, y]) s = .next (replied s 0x0E tag .badParam [0x27, 0xFF])) ∧
          (∀ d, s.slot n = .loaded d →
            exec (.setProtect tag [x, y]) s =
              .next
                { replied s 0x0E tag .ok [] with
                  slots := put s.slots n (.loaded { d with prot := y == 1 }) }) ∧
          (∀ d, s.slot n = .mounted d →
            exec (.setProtect tag [x, y]) s =
              .next
                { replied s 0x0E tag .ok [] with
                  slots := put s.slots n (.mounted { d with prot := y == 1 }) })))

/-- R129, R176: the checks of MOUNT, in their order. -/
def Obligations.MountRefused : Prop :=
  ∀ (s : State) (tag x y : Byte), Unoccupied s →
    (1 < x.toNat → exec (.mount tag [x, y]) s = .next (replied s 0x09 tag .badParam [0x40, 0xFF])) ∧
    ∀ u : DriveId, x = BitVec.ofNat 8 u.val →
      (7 < y.toNat → exec (.mount tag [x, y]) s = .next (replied s 0x09 tag .badParam [0x20, 0xFF])) ∧
      ∀ n : SlotId, y = BitVec.ofNat 8 n.val →
        (s.enabled u = false ∨ (s.unit u).media ≠ .empty →
          exec (.mount tag [x, y]) s = .next (replied s 0x09 tag .unitBusy [x, 0xFF])) ∧
        (s.enabled u = true → (s.unit u).media = .empty →
          (s.card.state ≠ .ready → exec (.mount tag [x, y]) s = .next (replied s 0x09 tag .noCard [])) ∧
          (s.card.state = .ready →
            ((∀ d, s.slot n ≠ .loaded d) →
              exec (.mount tag [x, y]) s = .next (replied s 0x09 tag .slotBusy [y, 0xFF])) ∧
            ∀ d, s.slot n = .loaded d →
              (∀ (v : DriveId) (m : SlotId) (e : SlotData), v ≠ u → (s.unit v).mounted = some m →
                (s.slot m).data = some e → (∃ c, d.hasBlock c = true ∧ e.hasBlock c = true) →
                exec (.mount tag [x, y]) s =
                  .next (replied s 0x09 tag .slotBusy [BitVec.ofNat 8 m.val, 0xFF])) ∧
              (∀ f, (∀ (v : DriveId) (m : SlotId) (e : SlotData), v ≠ u → (s.unit v).mounted = some m →
                  (s.slot m).data = some e → ∀ c, d.hasBlock c = true → e.hasBlock c = false) →
                (∀ e ∈ d.extents, 1 ≤ e.count) →
                (∀ m e, (s.slot m).data = some e → ∀ a ∈ e.extents, 1 ≤ a.count) →
                look s.formats d.format = some f → s.profile.physical < f.cylinders →
                exec (.mount tag [x, y]) s = .next (replied s 0x09 tag .badParam [0x06, 0xFF]))))

/-- R129, R130: an accepted MOUNT. -/
def Obligations.Mounted : Prop :=
  ∀ (s : State) (tag : Byte) (u v : DriveId) (n : SlotId) (d : SlotData) (f : Format),
    Unoccupied s → s.eject = none → v ≠ u →
    s.enabled u = true → (s.unit u).media = .empty → s.card.state = .ready → s.slot n = .loaded d →
    (∀ m e, (s.unit v).mounted = some m → (s.slot m).data = some e → ∀ c, d.hasBlock c = true → e.hasBlock c = false) →
    (∀ e ∈ d.extents, 1 ≤ e.count) → (∀ m e, (s.slot m).data = some e → ∀ a ∈ e.extents, 1 ≤ a.count) →
    look s.formats d.format = some f → f.cylinders ≤ s.profile.physical →
    ∃ t, exec (.mount tag [BitVec.ofNat 8 u.val, BitVec.ofNat 8 n.val]) s = .next t ∧
      (t.unit u).media = .ready ∧ (t.unit u).mounted = some n ∧ t.slots = put s.slots n (.mounted d) ∧
      (t.unit v).media = (s.unit v).media ∧ (t.unit v).mounted = (s.unit v).mounted ∧
      (∀ w, HeadSame s t w ∧ MotorSame s t w) ∧ t.pins = s.pins ∧ t.profile = s.profile ∧ t.formats = s.formats ∧
      t.eject = none ∧ t.executing = none ∧ t.link.replies = s.link.replies ++ [⟨0x09, tag, .ok, []⟩] ∧
      t.link.commands = s.link.commands ∧ t.card = { s.card with requests := t.card.requests } ∧ ModesTaken t ∧
      (s.link.reports.length < 16 →
        s.link.reports ++ [⟨.mediaInserted, some u, some (s.unit u).cylinder, some s.head, none, n.val⟩] <+:
          t.link.reports)

/-- R131, R172: the checks of EJECT; R83, R119, R132, R133: its start, while a window of the unit is open and without
one. -/
def Obligations.EjectAccepted : Prop :=
  ∀ (s : State) (tag x y : Byte), Unoccupied s →
    (1 < x.toNat → exec (.eject tag [x, y]) s = .next (replied s 0x05 tag .badParam [0x40, 0xFF])) ∧
    ∀ u : DriveId, x = BitVec.ofNat 8 u.val →
      (1 < y.toNat → exec (.eject tag [x, y]) s = .next (replied s 0x05 tag .badParam [0x41, 0xFF])) ∧
      (y.toNat ≤ 1 →
        ((s.unit u).media = .empty → exec (.eject tag [x, y]) s = .next (replied s 0x05 tag .noMedia [])) ∧
        ∀ w, (s.unit u).media = .ready → s.wcu.window = some w → w.key.unit = u → (s.unit u).motor = .atSpeed →
          ∃ t, exec (.eject tag [x, y]) s = .next t ∧
            (t.unit u).media = .ejecting ∧ (t.unit u).mounted = (s.unit u).mounted ∧ (t.unit u).latch = true ∧
            (t.unit u).mode = .quiet ∧ (t.unit u).cylinder = (s.unit u).cylinder ∧ t.slots = s.slots ∧
            t.eject = some ⟨u, if y = 1 then .force else .normal, .hold⟩ ∧
            t.wcu = { s.wcu with ejectHoldDue := some (s.now + 8000000), pending := t.wcu.pending } ∧
            (∀ c, t.wcu.pending = some c → c.key.unit ≠ u) ∧ t.now = s.now ∧
            t.executing = some ⟨0x05, tag, [x, y]⟩ ∧ t.link.replies = s.link.replies ∧ ModesTaken t) ∧
      ∀ b p blk, y = 0 → (s.unit u).media = .ready → s.windowOf u = false → (s.buffer b).ofUnit u = true →
        ((s.buffer b).state = .dirty ∨ (s.buffer b).state = .unsaved) → s.nextFlushBlock b 0 = some (p, blk) →
        ∃ t v, exec (.eject tag [x, y]) s = .next t ∧ (t.unit u).media = .ejecting ∧
          (t.unit u).mounted = (s.unit u).mounted ∧ (t.unit u).latch = true ∧ (t.unit u).mode = .quiet ∧
          t.slots = s.slots ∧ t.eject = some ⟨u, .normal, .save⟩ ∧ t.cache.service = some v ∧ v.units = [u] ∧
          b ∈ v.open_ ∧ (t.buffer b).state = .flushing ∧ (t.buffer b).flushClass = some 2 ∧
          (∃ r ∈ t.card.requests, r.requester = .flush b ∧ r.cls = 2 ∧ r.block = p.cardBlock blk ∧
            r.kind = if p.interior blk then .writeBlock else .merge) ∧
          t.executing = some ⟨0x05, tag, [x, y]⟩ ∧ t.link.replies = s.link.replies ∧ ModesTaken t

/-- R62, R133, R135: the completion of an eject, in EJECT itself and at UNIT_RELEASE. -/
def Obligations.EjectCompleted : Prop :=
  ∀ (s : State) (u : DriveId) (n : SlotId) (d : SlotData) (mode : EjectMode) (i : Instr) (e : Executing),
    (s.unit u).mounted = some n → s.slot n = .mounted d → (∀ v, v ≠ u → (s.unit v).mounted ≠ some n) →
    s.link.reports.length ≤ 14 → s.wcu.pending = none →
    ((i = .eject e.tag [BitVec.ofNat 8 u.val, 1] ∧ mode = .force ∨
          i = .eject e.tag [BitVec.ofNat 8 u.val, 0] ∧ mode = .normal ∧
            ∀ b, (s.buffer b).ofUnit u = true → (s.buffer b).unsettled = false ∧ (s.buffer b).dirtyCount = 0) ∧
        Unoccupied s ∧ e.code = 0x05 ∧ (s.unit u).media = .ready ∧ s.windowOf u = false ∧ s.card.transaction = none ∧
        (∀ b, (s.buffer b).ofUnit u = true → (s.buffer b).state = .filling → (s.buffer b).dirtyCount = 0) ∨
      i = .unitRelease ∧ s.eject = some ⟨u, mode, .release⟩ ∧ s.unitInFlight u = false ∧ s.executing = some e ∧
        (s.unit u).latch = true) →
    ∃ t, exec i s = .next (State.followQueue s t) ∧
      (t.unit u).media = .empty ∧ (t.unit u).mounted = none ∧ (t.unit u).latch = true ∧ (t.unit u).mode = .quiet ∧
      t.slots = put s.slots n (.loaded d) ∧ (∀ b, (t.buffer b).ofUnit u = false) ∧ t.eject = none ∧
      t.executing = none ∧ t.link.replies = s.link.replies ++ [⟨e.code, e.tag, .ok, []⟩] ∧
      t.formats = s.formats ∧ t.profile = s.profile ∧ t.pins = s.pins ∧
      s.link.reports ++
          (if mode = .force then
              [⟨.dataDiscarded, some u, some (s.unit u).cylinder, some s.head, none, s.dirtyCount u⟩]
            else []) ++
          [⟨.mediaEjected, some u, some (s.unit u).cylinder, some s.head, none, n.val⟩] <+:
        t.link.reports

/-- R173: FLUSH; R53, R58: the flush service that it requests, and its end; R134: the refused eject. That the held
failures are numbered (log entry 25), that a set flag stands only in a buffer that is DIRTY, FLUSHING or UNSAVED, and
that no window of a unit in SAVE is open are of the invariants; a read phase's end that no block's beginning came
before, and a data response while the block is still sent, are log entry 21. -/
def Obligations.Flushed : Prop :=
  (∀ (s : State) (tag x : Byte), Unoccupied s →
    (2 < x.toNat → exec (.flush tag [x]) s = .next (replied s 0x06 tag .badParam [0x40, 0xFF])) ∧
    (x.toNat ≤ 2 → s.eject = none →
      ((∀ b u, (s.buffer b).ofUnit u = true → x = 2 ∨ x = BitVec.ofNat 8 u.val →
          (s.buffer b).state ∉ [.dirty, .flushing, .unsaved] ∧ (s.buffer b).dirtyCount = 0) →
        ∃ t, exec (.flush tag [x]) s = .next t ∧ MediaSame s t ∧ t.executing = none ∧
          t.link.replies = s.link.replies ++ [⟨0x06, tag, .ok, []⟩] ∧ t.cache.service = none ∧ t.pins = s.pins ∧
          ∀ u, HeadSame s t u ∧ MotorSame s t u) ∧
      ∀ b u p blk, (s.buffer b).ofUnit u = true → (x = 2 ∨ x = BitVec.ofNat 8 u.val) →
        ((s.buffer b).state = .dirty ∨ (s.buffer b).state = .unsaved) → s.nextFlushBlock b 0 = some (p, blk) →
        ∃ t v, exec (.flush tag [x]) s = .next t ∧ MediaSame s t ∧
          t.executing = some ⟨0x06, tag, [x]⟩ ∧ t.link.replies = s.link.replies ∧
          t.cache.service = some v ∧ b ∈ v.open_ ∧ u ∈ v.units ∧ (t.buffer b).state = .flushing ∧
          (t.buffer b).flushClass = some 2 ∧ t.pins = s.pins ∧
          (∃ r ∈ t.card.requests, r.requester = .flush b ∧ r.cls = 2 ∧ r.block = p.cardBlock blk ∧
            r.kind = if p.interior blk then .writeBlock else .merge) ∧
          ∀ w, HeadSame s t w ∧ MotorSame s t w)) ∧
  ∀ (s : State) (i : Instr) (t : Transaction) (b : BufferId) (p : Span) (v : Service) (e : Executing),
    s.card.transaction = some t → t.requester = .flush b → (s.buffer b).state = .flushing →
    ((s.buffer b).key.bind s.span) = some p → s.cache.service = some v → v.open_ = [b] → s.executing = some e →
    e.code ≠ 0x0C → MediaConsistent s → RequestsConsistent s → BusConsistent s →
    (∀ d ∈ (s.buffer b).entries, p.sectorLast d.number ≤ (s.buffer b).block) →
    let x := s.buffer b
    let first := earlierFailure v.failure x.attempt.failure
    let replies := fun (y : State) (r : ResultCode) (payload : List Byte) =>
      y.executing = none ∧ y.link.replies = s.link.replies ++ [⟨e.code, e.tag, r, payload⟩] ∧
        y.card.transaction = none ∧ y.card.scratch = none
    (∀ r, failureAt i t.stage = some r → t.attempt = 2 →
      (s.eject = none →
        ∃ y, exec i s = .next (State.followQueue s y) ∧ y.cache.service = none ∧
          replies y .cardError [BitVec.ofNat 8 (match first with | some a => a.2.code | none => r.code), 0xFF]) ∧
      ∀ u, s.eject = some ⟨u, .normal, .save⟩ → s.link.reports.length ≤ 12 →
        ∃ y, exec i s = .next (State.followQueue s y) ∧ y.cache.service = none ∧ replies y .refused [] ∧
          (y.unit u).media = .ready ∧ (y.unit u).mounted = (s.unit u).mounted ∧ y.slots = s.slots ∧
          y.eject = none ∧ (y.unit u).latch = (s.unit u).latch ∧ ModesTaken y ∧
          (⟨.ejectRefused, some u, some (s.unit u).cylinder, some s.head, none, y.dirtyCount u⟩ : Report) ∈
            y.link.reports) ∧
    (i = .busyEnd → t.stage = .busy → v.failed = false → x.attempt.failure = none → s.eject = none →
      (∀ c, (s.buffer c).dirtyCount = 0) →
      ∃ y, exec i s = .next (State.followQueue s y) ∧ y.cache.service = none ∧ replies y .ok [])

/-- R151, R152, R169, R170: the checks of CARD_READ and CARD_WRITE, and the request of R148. -/
def Obligations.CardTransfersPosted : Prop :=
  ∀ (s : State) (tag : Byte) (ps : List Byte),
    (Unoccupied s → ps.length = 4 →
      (s.card.state ≠ .ready → exec (.cardRead tag ps) s = .next (replied s 0x02 tag .noCard [])) ∧
      (s.card.state = .ready →
        (s.card.capacity.getD 0 ≤ longAt ps 0 →
          exec (.cardRead tag ps) s = .next (replied s 0x02 tag .badParam [0x50, 0xFF])) ∧
        (longAt ps 0 < s.card.capacity.getD 0 →
          exec (.cardRead tag ps) s =
            .next
              { underWay s 0x02 tag ps with
                card :=
                  { s.card with
                    requests := s.card.requests ++ [⟨.readBlock, longAt ps 0, .panel, 3, s.moment + 1, none⟩] } }))) ∧
    (Unoccupied s → ps.length = 516 →
      (s.card.state ≠ .ready → exec (.cardWrite tag ps) s = .next (replied s 0x03 tag .noCard [])) ∧
      (s.card.state = .ready →
        (s.card.capacity.getD 0 ≤ longAt ps 0 →
          exec (.cardWrite tag ps) s = .next (replied s 0x03 tag .badParam [0x50, 0xFF])) ∧
        (longAt ps 0 < s.card.capacity.getD 0 →
          (∀ (n : SlotId) (d : SlotData), s.slot n = .mounted d → d.hasBlock (longAt ps 0) = true →
            (∀ (m : SlotId) (e : SlotData), m < n → s.slot m = .mounted e → e.hasBlock (longAt ps 0) = false) →
            exec (.cardWrite tag ps) s = .next (replied s 0x03 tag .slotBusy [BitVec.ofNat 8 n.val, 0xFF])) ∧
          ((∀ (n : SlotId) (d : SlotData), s.slot n = .mounted d → d.hasBlock (longAt ps 0) = false) →
            (s.card.lock = true → exec (.cardWrite tag ps) s = .next (replied s 0x03 tag .writeLocked [])) ∧
            (s.card.lock = false →
              exec (.cardWrite tag ps) s =
                .next
                  { underWay s 0x03 tag ps with
                    card :=
                      { s.card with
                        requests :=
                          s.card.requests ++ [⟨.writeBlock, longAt ps 0, .panel, 3, s.moment + 1, none⟩] } })))))

/-- R123 to R125, R180: SET_PROFILE; the settings that pass are ProfileAllowed, the checks in their order
profileChecks. -/
def Obligations.ProfileSet : Prop :=
  ∀ (s : State) (tag : Byte) (ps : List Byte), Unoccupied s → ps.length = 29 →
    (∀ u : DriveId, (s.unit u).media ≠ .empty → (∀ v, v < u → (s.unit v).media = .empty) →
      exec (.setProfile tag ps) s = .next (replied s 0x0D tag .unitBusy [BitVec.ofNat 8 u.val, 0xFF])) ∧
    ((∀ u, (s.unit u).media = .empty) →
      (¬ ProfileAllowed ps → ∃ field item, firstFailure (profileChecks ps) = some (field, item) ∧
        exec (.setProfile tag ps) s =
          .next (replied s 0x0D tag .badParam [BitVec.ofNat 8 field, BitVec.ofNat 8 item])) ∧
      (ProfileAllowed ps → s.eject = none →
        ∃ t, exec (.setProfile tag ps) s = .next t ∧ ProfileRead ps t.profile ∧
          (∀ u, (t.unit u).cylinder = min (s.unit u).cylinder (t.profile.physical - 1) ∧
            (t.unit u).lastDir = (s.unit u).lastDir ∧ (t.unit u).latch = (s.unit u).latch ∧
            (t.unit u).settleDue = (s.unit u).settleDue ∧ (t.unit u).media = .empty ∧
            (s.motorOn u = true → t.enabled u = false → (t.unit u).motor = .stopped ∧ (t.unit u).spinUpDue = none) ∧
            (s.motorOn u = t.motorOn u → MotorSame s t u)) ∧
          t.pins = s.pins ∧ t.formats = s.formats ∧ t.slots = s.slots ∧ t.executing = none ∧
          (t.conflict = .conflict ↔ t.selected 0 = true ∧ t.selected 1 = true) ∧
          t.link.replies =
            s.link.replies ++
              [⟨0x0D, tag, .ok,
                [ BitVec.ofNat 8 t.profile.spinUp, BitVec.ofNat 8 (t.profile.spinUp / 256)
                , BitVec.ofNat 8 t.profile.settle, BitVec.ofNat 8 t.profile.writeBack
                , BitVec.ofNat 8 (t.profile.writeBack / 256), BitVec.ofNat 8 t.profile.tolerance ]⟩]))

/-- R155, R156: the status byte, which a transaction shifts out as byte 0; R163, R164: ATTN and MDO. -/
def Obligations.StatusByteBits : Prop :=
  ∀ s : State, s.link.commands.length ≤ 3 →
    s.statusByte.toNat % 4 = 3 - s.link.commands.length ∧
    (s.statusByte.getLsbD 2 = true ↔ s.link.replies ≠ []) ∧
    (s.statusByte.getLsbD 3 = true ↔ s.link.reports ≠ []) ∧
    (s.statusByte.getLsbD 4 = true ↔ s.link.lost = true) ∧
    (s.statusByte.getLsbD 5 = true ↔ s.link.fault = true) ∧
    (s.statusByte.getLsbD 6 = true ↔ s.card.state = .ready) ∧
    (s.statusByte.getLsbD 7 = true ↔ s.executing ≠ none) ∧
    (∀ n t, exec (.status (n + 1)) s = .next t →
      (s.link.frame = none → t.link.mdo.head? = some s.statusByte) ∧
      ∀ st, s.link.frame = some (.opening st) → t.link.mdo.head? = some st) ∧
    (s.attn = true ↔
      s.resetPin = false ∧
        (s.link.replies ≠ [] ∨ s.link.reports ≠ [] ∨ s.link.lost = true ∨ s.link.fault = true)) ∧
    (s.mdoDriven = true ↔ s.resetPin = false ∧ s.link.frame ≠ none)

/-- R155 to R157: STATUS, an unknown kind, the bytes beyond a frame and the end of a transaction; what a row's bytes
are is log entry 8. -/
def Obligations.PlainFrames : Prop :=
  (∀ (s : State) (n : Nat) (kind st : Byte), OpensWith s st →
    let opened := fun fault : Bool =>
      ({ s with
          moment := s.moment + 1
          link :=
            { s.link with mdo := st :: List.replicate n 0, fault := fault, frame := some .beyond } } : State)
    exec (.status (n + 1)) s = .next (opened (s.link.fault && !st.getLsbD 5)) ∧
    (3 < kind.toNat → exec (.unknownFrameKind kind n) s = .next (opened true)) ∧
    (kind.toNat ≤ 3 → exec (.unknownFrameKind kind n) s = .next (passed s)) ∧
    (s.link.frame = none →
      exec (.status 0) s =
        .next
          { s with
            moment := s.moment + 1, link := { s.link with mdo := [], frame := some (.opening s.statusByte) } }) ∧
    (s.link.frame ≠ none → exec (.status 0) s = .next (passed s))) ∧
  ∀ (s : State) (n : Nat) (kind : Byte) (bytes : List Byte),
    let ignored := fun k : Nat =>
      ({ s with
          moment := s.moment + 1, link := { s.link with mdo := s.link.mdo ++ List.replicate k 0 } } : State)
    (s.link.frame = some .beyond →
      exec (.status n) s = .next (ignored n) ∧ exec (.fetchReply n) s = .next (ignored n) ∧
      exec (.command bytes) s = .next (ignored bytes.length) ∧
      exec (.fetchReports bytes) s = .next (ignored bytes.length)) ∧
    (∀ f, s.link.frame = some f → (∀ st, f ≠ .opening st) →
      exec (.status n) s = exec (.command (List.replicate n 0)) s ∧
      exec (.fetchReply n) s = exec (.command (List.replicate n 0)) s ∧
      exec (.fetchReports bytes) s = exec (.command bytes) s ∧
      exec (.unknownFrameKind kind n) s = .next (passed s)) ∧
    (∀ ps, s.link.frame = some (.command ps) →
      exec .mselNegated s =
        .next { s with moment := s.moment + 1, link := { s.link with frame := none, fault := true } }) ∧
    ((∀ ps, s.link.frame ≠ some (.command ps)) →
      exec .mselNegated s = .next { s with moment := s.moment + 1, link := { s.link with frame := none } })

/-- R155, R157, R158: COMMAND frames; R159: the start that follows (log entries 5 and 8). -/
def Obligations.CommandFramed : Prop :=
  ∀ (s : State) (st code tag lo hi : Byte) (inbound bytes params more before : List Byte) (fault : Bool),
    (OpensWith s st ∧ inbound = [] ∧ before = [st] ∧ fault = (s.link.fault && !st.getLsbD 5) ∨
      s.link.frame = some (.command inbound) ∧ before = s.link.mdo ∧ fault = s.link.fault) →
    inbound ++ bytes = code :: tag :: lo :: hi :: (params ++ more) →
    let declared := lo.toNat + 256 * hi.toNat
    (inbound.length < 4 ∨ declared ≤ 520 ∧ inbound.length < 4 + declared) →
    let after := fun l : Link =>
      ({ s with moment := s.moment + 1, link := { l with mdo := before ++ List.replicate bytes.length 0 } } : State)
    (declared = params.length → params.length ≤ 520 →
      (s.link.commands.length < 3 →
        exec (.command bytes) s =
          .next (State.followQueue s (after
            { s.link with
              fault := fault, frame := some .beyond, commands := s.link.commands ++ [⟨code, tag, params⟩] }))) ∧
      (3 ≤ s.link.commands.length →
        exec (.command bytes) s = .next (after { s.link with fault := true, frame := some .beyond }))) ∧
    (520 < declared →
      exec (.command bytes) s = .next (after { s.link with fault := true, frame := some .beyond })) ∧
    (more = [] → params.length < declared → declared ≤ 520 →
      exec (.command bytes) s =
        .next (after { s.link with fault := fault, frame := some (.command (code :: tag :: lo :: hi :: params)) }))

/-- R155, R157, R160: FETCH REPLY; R159: the start that follows (log entries 5 and 8). -/
def Obligations.ReplyFetched : Prop :=
  (∀ (s : State) (r : Reply) (rest : List Reply) (st : Byte), OpensWith s st →
    let bytes := [r.code, r.tag, r.result.byte, BitVec.ofNat 8 r.payload.length, BitVec.ofNat 8 (r.payload.length / 256)]
      ++ r.payload
    let after := fun (mdo : List Byte) (replies : List Reply) (frame : Frame) =>
      ({ s with
          moment := s.moment + 1
          link :=
            { s.link with
              mdo := st :: mdo, replies := replies, fault := s.link.fault && !st.getLsbD 5
              frame := some frame } } : State)
    (s.link.replies = r :: rest →
      (∀ more,
        exec (.fetchReply (bytes.length + more)) s =
          .next (State.followQueue s (after (bytes ++ List.replicate more 0) rest .beyond))) ∧
      ∀ n, n < bytes.length →
        exec (.fetchReply n) s = .next (after (bytes.take n) s.link.replies (.reply (bytes.drop n) true))) ∧
    (s.link.replies = [] → exec (.fetchReply 5) s = .next (after [0, 0, 0, 0, 0] [] .beyond))) ∧
  ∀ (s : State) (left : List Byte) (more : Nat), s.link.frame = some (.reply left true) → left ≠ [] →
    exec (.fetchReply (left.length + more)) s =
      .next (State.followQueue s
        { s with
          moment := s.moment + 1
          link :=
            { s.link with
              mdo := s.link.mdo ++ left ++ List.replicate more 0, replies := s.link.replies.tail
              frame := some .beyond } })

/-- R161, R162: the report queue and FETCH REPORTS (log entry 8). -/
def Obligations.ReportsFetched : Prop :=
  (∀ (s : State) (r : Report),
    (s.link.reports.length < 16 →
      s.report r = { s with link := { s.link with reports := s.link.reports ++ [r] } }) ∧
    (16 ≤ s.link.reports.length →
      s.report r =
        { s with
          link :=
            { s.link with
              lost := true
              frame := match s.link.frame with
                | some (.reports (some c) n _) => some (.reports (some c) n true)
                | f => f } })) ∧
  ∀ (s : State) (w st : Byte) (fill : List Byte), OpensWith s st →
    let c := min (min w.toNat 16) s.link.reports.length
    let record := fun r : Report =>
      [ r.kind.byte, (r.unit.map fun u => BitVec.ofNat 8 u.val).getD 0xFF
      , (r.cylinder.map (BitVec.ofNat 8)).getD 0xFF, (r.head.map (BitVec.ofNat 8)).getD 0xFF
      , (r.sector.map (BitVec.ofNat 8)).getD 0xFF, BitVec.ofNat 8 r.detail, BitVec.ofNat 8 (r.detail / 256) ]
    (fill.length = 1 + 7 * c →
      exec (.fetchReports (w :: fill)) s =
        .next
          { s with
            moment := s.moment + 1
            link :=
              { s.link with
                mdo := st :: 0 :: BitVec.ofNat 8 c :: (s.link.reports.take c).flatMap record
                reports := s.link.reports.drop c
                lost := false
                fault := s.link.fault && !st.getLsbD 5
                frame := some .beyond } }) ∧
    (0 < c → fill.length < 1 + 7 * c → 1 + 7 * (c - 1) ≤ fill.length →
      ∃ t, exec (.fetchReports (w :: fill)) s = .next t ∧ t.link.reports = s.link.reports.drop (c - 1) ∧
        t.link.lost = s.link.lost ∧ t.link.replies = s.link.replies ∧ t.link.commands = s.link.commands)

/-- R140 to R143: detect, lock switch and start-up; 20, 100 and 1,000 ms are 320,000, 1,600,000 and 16,000,000 ticks.
That a timed event brings the clock to its moment (and the turning units with it, RotationAdvanced) is the model's
choice, log entry 2; how an exchange's answer is told apart is log entries 20 and 31. -/
def Obligations.CardStarted : Prop :=
  (∀ (s : State) (level : Bool),
    (s.card.state = .absent → s.card.cdet ≠ level →
      exec (.cdetChangeWhileAbsent level) s =
        .next
          { s with
            moment := s.moment + 1
            card := { s.card with cdet := level, detectFrom := if level then some s.now else none } }) ∧
    exec (.lockSwitchChange level) s =
      .next
        { s with
          moment := s.moment + 1
          card := { s.card with clsw := level, lock := if s.card.state = .absent then s.card.lock else level } } ∧
    ∀ m, s.card.state = .absent → s.card.detectFrom = some m →
      let r := (passed s).runTo (m + 320000)
      r.now = max s.now (m + 320000) ∧
      exec .cardDetect s =
        .next
          { r with
            card :=
              { r.card with
                state := .starting
                detectFrom := none
                startFrom := some r.now
                exchange := some (.resetCard, r.now)
                power := true
                lock := s.card.clsw } }) ∧
  ∀ (s : State) (e : StartupExchange) (m : Nat) (error ready blocks512 : Bool) (blocks : Nat),
    let send := fun (r : State) (x : StartupExchange) =>
      ({ r with card := { r.card with exchange := some (x, r.now) } } : State)
    let failed := fun (r : State) (detail : Nat) =>
      ({ r with card := { r.card with state := .failed, startFrom := none, exchange := none } } : State).report
        ⟨.cardFailed, none, none, none, none, detail⟩
    let p := passed s
    (s.card.exchange = some (e, m) →
      exec (.startupExchangeAnswer false error ready blocks512 blocks) s = .next (send p e) ∧
      exec (.startupExchangeAnswer true true ready blocks512 blocks) s = .next (failed p 2) ∧
      exec (.startupExchangeAnswer true false ready blocks512 blocks) s =
        .next (match e with
          | .resetCard => send p .leaveIdle
          | .leaveIdle => send p (if ready then .identify else .leaveIdle)
          | .identify => if blocks512 then send p .readCapacity else failed p 2
          | .readCapacity =>
            if blocks = 0 then failed p 3
            else
              ({ p with
                  card :=
                    { s.card with
                      state := .ready, startFrom := none, exchange := none
                      capacity := some (min blocks 4294967295) } } : State).report
                ⟨.cardReady, none, none, none, none, 0⟩) ∧
      exec .exchangeTimeout s = .next (send (p.runTo (m + 1600000)) e) ∧
      (p.runTo (m + 1600000)).now = max s.now (m + 1600000)) ∧
    (s.card.startFrom = some m →
      exec .startupTimeout s = .next (failed (p.runTo (m + 16000000)) 1) ∧
      (p.runTo (m + 16000000)).now = max s.now (m + 16000000))

/-- R144, R148, R149: the grant (which of several of one class and age is granted is free, log entry 10); R54, R55,
R107: the take of a flush's write. Which sectors' flags a take leaves after a format capture is the model's reading of
R55 and R107, log entry 36. -/
def Obligations.RequestGranted : Prop :=
  ∀ s : State,
    (s.card.state = .ready → s.card.transaction = none → s.card.requests ≠ [] → s.resetWaits = false →
      s.releaseDue = false →
      ∃ r t, r ∈ s.card.requests ∧ (∀ q ∈ s.card.requests, r.cls ≤ q.cls) ∧
        (∀ q ∈ s.card.requests, q.cls = r.cls → r.age ≤ q.age) ∧
        exec .arbiterGrant s = .next t ∧
        t.card.transaction =
          some ⟨r.kind, r.block, r.requester, match r.kind with | .writeBlock => .awaitAnswer | _ => .awaitBlock, s.now, 1,
            r.range, false⟩ ∧
        t.card.requests = s.card.requests.filter (fun q => q.requester ≠ r.requester) ∧
        (r.kind ≠ .writeBlock →
          t =
            { s with
              moment := s.moment + 1
              choices := s.choices + 1
              card :=
                { s.card with transaction := t.card.transaction, requests := t.card.requests } }) ∧
        (r.kind = .writeBlock → r.requester = .panel →
          t =
            { s with
              moment := s.moment + 1
              choices := s.choices + 1
              card :=
                { s.card with
                  transaction := t.card.transaction, requests := t.card.requests
                  scratch := s.executing.map fun e => (e.params.drop 4).take 512 } }) ∧
        (∀ b, r.kind = .writeBlock → r.requester = .flush b →
          t =
            { s with
              moment := s.moment + 1
              choices := s.choices + 1
              buffers := t.buffers
              card :=
                { s.card with
                  transaction := t.card.transaction, requests := t.card.requests, scratch := t.card.scratch } } ∧
          (∀ c, c ≠ b → t.buffer c = s.buffer c) ∧
          ∀ k p, (s.buffer b).key = some k → s.span k = some p →
            FlagsTaken (s.buffer b) (t.buffer b) p ∧
            ∃ bytes, t.card.scratch = some bytes ∧ BlockTaken (s.buffer b) p (s.card.scratch.getD []) bytes)) ∧
    (s.card.state ≠ .ready ∨ s.card.transaction ≠ none ∨ s.card.requests = [] →
      exec .arbiterGrant s = .next (passed s))

/-- R145: the exchanges of a phase, and the block sent with its check; R146, R147: the repeat. 100 ms and 500 ms are
1,600,000 and 8,000,000 ticks. That an event at another stage changes nothing is log entry 3, the clock of a timed one
log entry 2, a data response while the block is still sent log entry 21: the model's choices. -/
def Obligations.TransactionStages : Prop :=
  (∀ (s : State) (t : Transaction), s.card.transaction = some t →
    let at_ := fun g : Stage =>
      ({ s with
          moment := s.moment + 1
          card := { s.card with transaction := some { t with stage := g, since := s.now } } } : State)
    exec .cardBlockBegins s = .next (if t.stage = .awaitBlock then at_ .receiving else passed s) ∧
    (t.stage = .awaitAnswer → exec (.writeCommandAnswer true) s = .next (at_ .sending)) ∧
    exec .lastByteSent s = .next (if t.stage = .sending then at_ .awaitResponse else passed s) ∧
    (t.stage = .sending ∨ t.stage = .awaitResponse → exec (.dataResponse .accepted) s = .next (at_ .busy)) ∧
    (t.stage ≠ .sending → t.stage ≠ .awaitResponse → ∀ r, exec (.dataResponse r) s = .next (passed s)) ∧
    (∀ a, t.stage ≠ .awaitAnswer → exec (.writeCommandAnswer a) s = .next (passed s)) ∧
    (t.stage ≠ .busy → exec .busyEnd s = .next (passed s) ∧ exec .busyTimeout s = .next (passed s)) ∧
    (∀ block, s.card.scratch = some block →
      s.sentBlock = if t.stage = .sending then some (block, crc 0 block) else none) ∧
    ∀ (x : State) (r : DataResponse) (c : Bool), x.card.transaction = none →
      ∀ i ∈ [Instr.cardBlockBegins, .writeCommandAnswer c, .lastByteSent, .dataResponse r, .busyEnd, .noResponse,
        .busyTimeout], exec i x = .next (passed x)) ∧
  ∀ (i : Instr) (s : State) (t : Transaction) (r : Result), s.card.transaction = some t →
    failureAt i t.stage = some r → t.attempt = 1 →
    let x :=
      if i = .noResponse then (passed s).runTo (t.since + 1600000)
      else if i = .busyTimeout then (passed s).runTo (t.since + 8000000)
      else passed s
    x.now =
      (if i = .noResponse then max s.now (t.since + 1600000)
       else if i = .busyTimeout then max s.now (t.since + 8000000)
       else s.now) ∧
    ∃ scratch,
      exec i s =
        .next
          { x with
            card :=
              { x.card with
                transaction :=
                  some
                    { t with
                      attempt := 2
                      since := x.now
                      stage :=
                        if t.kind = .readBlock ∨ (t.kind = .merge ∧ t.taken = false) then .awaitBlock
                        else .awaitAnswer }
                scratch := scratch } } ∧
      ((∀ data check, i ≠ .readPhaseEnd data check) → scratch = s.card.scratch)

/-- R145, R146, R150 to R152: the end of CARD_READ and CARD_WRITE. That READ_PHASE_END may come with no
CARD_BLOCK_BEGINS before it, and DATA_RESPONSE with no LAST_BYTE_SENT, is log entry 21, the model's choice. -/
def Obligations.PanelTransferEnds : Prop :=
  ∀ (s : State) (t : Transaction) (e : Executing) (data : List Byte) (check : Word16), NoHold s →
    s.card.transaction = some t → t.requester = .panel → s.executing = some e → e.code ≠ 0x0C →
    let ends := fun (i : Instr) (r : ResultCode) (payload : List Byte) =>
      ∃ x, exec i s = .next (State.followQueue s x) ∧ x.executing = none ∧
        x.link.replies = s.link.replies ++ [⟨e.code, e.tag, r, payload⟩] ∧ x.card.transaction = none ∧
        x.card.scratch = none ∧ MediaSame { s with card := { s.card with transaction := none, scratch := none } } x ∧
        ∀ u, HeadSame s x u ∧ MotorSame s x u
    (t.kind = .readBlock → (t.stage = .awaitBlock ∨ t.stage = .receiving) → data.length = 512 → crc 0 data = check →
      ends (.readPhaseEnd data check) (if s.stale t.block then .stale else .ok) data) ∧
    (t.kind = .writeBlock → t.stage = .busy → ends .busyEnd .ok []) ∧
    ∀ i r, t.attempt = 2 → failureAt i t.stage = some r → ends i .cardError [BitVec.ofNat 8 r.code, 0xFF]

/-- R54, R55, R107, R147: the take of a merge. That READ_PHASE_END may come with no CARD_BLOCK_BEGINS before it is log
entry 21, the model's choice; which sectors' flags a take leaves after a format capture is the model's reading of R55
and R107, log entry 36. -/
def Obligations.MergeTaken : Prop :=
  ∀ (s : State) (t : Transaction) (b : BufferId) (k : Key) (p : Span) (data : List Byte) (check : Word16),
    s.card.transaction = some t → t.kind = .merge → t.requester = .flush b →
    (t.stage = .awaitBlock ∨ t.stage = .receiving) → data.length = 512 → crc 0 data = check →
    (s.buffer b).key = some k → s.span k = some p →
    ∃ x bytes, exec (.readPhaseEnd data check) s = .next x ∧
      x =
        { s with
          moment := s.moment + 1
          buffers := x.buffers
          card :=
            { s.card with
              scratch := some bytes
              transaction := some { t with taken := true, stage := .awaitAnswer, since := s.now } } } ∧
      (∀ c, c ≠ b → x.buffer c = s.buffer c) ∧
      BlockTaken (s.buffer b) p data bytes ∧ FlagsTaken (s.buffer b) (x.buffer b) p

/-- R63, R84, R139, R153, R167: a card removal. That CARD_REMOVAL with no card changes nothing is log entry 3, and
that the power item stays after a removal is log entry 20: the model's choices. -/
def Obligations.CardRemoved : Prop :=
  ∀ s : State,
    (s.card.state = .absent → exec .cardRemoval s = .next (passed s)) ∧
    (s.card.state ≠ .absent → s.resetWaits = false → s.link.reports.length ≤ 12 →
      (s.selected 0 = true → s.selected 1 = true → s.conflict = .conflict) →
      ∃ t, exec .cardRemoval s = .next (State.followQueue s t) ∧
        t.card = { CardPort.reset with clsw := s.card.clsw, power := s.card.power } ∧ (∀ n, t.slot n = .vacant) ∧
        (∀ u, (t.unit u).media = .empty ∧ ((t.unit u).mounted = none ∨ (s.unit u).media = .empty) ∧
          (t.unit u).latch = ((s.unit u).latch || (s.unit u).media != .empty) ∧
          (t.unit u).mode = .quiet ∧ (t.unit u).cylinder = (s.unit u).cylinder ∧
          (t.unit u).lastDir = (s.unit u).lastDir ∧ (t.unit u).settleDue = (s.unit u).settleDue ∧ MotorSame s t u) ∧
        (∀ b, t.buffer b = Buffer.free) ∧ (∀ u, look t.cache.predictions u = none) ∧ t.cache.waiting = [] ∧
        t.cache.service = none ∧ t.wcu = Wcu.reset ∧ t.eject = none ∧ t.executing = none ∧
        t.formats = s.formats ∧ t.profile = s.profile ∧ t.pins = s.pins ∧ t.link.commands = s.link.commands ∧
        t.link.replies =
          s.link.replies ++ (match s.executing with
            | none => []
            | some e => [⟨e.code, e.tag, .noCard, []⟩]) ∧
        t.link.reports =
          s.link.reports ++
            (match s.wcu.pending with
              | none => []
              | some c =>
                [⟨.writeLost, some c.key.unit, some c.key.cylinder, some c.key.head, c.sector, 3⟩]) ++
            (if 0 < s.dirtyCount 0 then
              [⟨.dataDiscarded, some 0, some (s.unit 0).cylinder, some s.head, none, s.dirtyCount 0⟩] else []) ++
            (if 0 < s.dirtyCount 1 then
              [⟨.dataDiscarded, some 1, some (s.unit 1).cylinder, some s.head, none, s.dirtyCount 1⟩] else []) ++
            [⟨.cardRemoved, none, none, none, none, match s.card.state with
              | .absent => 0 | .starting => 1 | .ready => 2 | .failed => 3⟩])

/-- R82, R108, R111, R112: a select input changes. That SELECT_CONFLICT stands before the event's other reports is log
entry 11, the model's choice; a pin that carries another input too is left out by OnOwnPin. -/
def Obligations.SelectionChanged : Prop :=
  ∀ (s : State) (u v : DriveId) (level : Bool) (p : InPin), OnOwnPin s (selectInput u) p → v ≠ u →
    ∃ t, exec (.selectChange u level) s = .next (State.followQueue s t) ∧ PinTaken s t p level ∧
      t.selected u = (s.enabled u && level) ∧ t.selected v = s.selected v ∧
      (t.conflict = .conflict ↔ t.selected 0 = true ∧ t.selected 1 = true) ∧
      (s.enabled u = true → s.level (selectInput u) ≠ level → t.wcu.window = none) ∧
      (∀ w, HeadSame s t w) ∧ MotorSame s t v ∧ (look s.profile.follows u = false → MotorSame s t u) ∧
      t.now = s.now ∧ ModesTaken t ∧ (NoHold s → ManagementSame s t) ∧
      (s.conflict = .none → s.selected u = false → s.selected v = true → s.enabled u = true → level = true →
        (s.wcu.window = none → s.link.reports.length < 16 →
          s.link.reports ++ [⟨.selectConflict, none, none, none, none, 0⟩] <+: t.link.reports) ∧
        (s.wcu.window ≠ none → s.link.reports.length ≤ 12 → NoHold s →
          ⟨.selectConflict, none, none, none, none, 1⟩ ∈ t.link.reports))

/-- R33, R82, R115: SIDE changes. -/
def Obligations.SideChanged : Prop :=
  ∀ (s : State) (level : Bool) (p : InPin), OnOwnPin s .side p →
    ∃ t, exec (.sideChange level) s = .next (State.followQueue s t) ∧ PinTaken s t p level ∧
      t.head = (if level then 1 else 0) ∧
      (∀ u, t.key u = ⟨u, (s.unit u).cylinder, if level then 1 else 0⟩ ∧ HeadSame s t u ∧ MotorSame s t u ∧
        (NoHold s → (t.unit u).bitCount = (s.unit u).bitCount ∧
          (t.unit u).rotationStart = (s.unit u).rotationStart)) ∧
      (s.level .side ≠ level → t.wcu.window = none) ∧ t.now = s.now ∧ ModesTaken t ∧
      (NoHold s → ManagementSame s t)

/-- R30, R52, R67, R82, R116: motors; a millisecond is 16,000 ticks. That SPIN_UP_EXPIRY brings the clock to the
timer's moment is log entry 2, the model's choice; a motor that follows select and a pin that carries another input
too are left out. -/
def Obligations.MotorsFollow : Prop :=
  ∀ (s : State) (u v : DriveId) (p : InPin), NoHold s → v ≠ u →
    let still := fun t : State =>
      ManagementSame s t ∧ (∀ w, HeadSame s t w) ∧ MotorSame s t v ∧ ModesTaken t
    (OnOwnPin s (motorInput u) p → look s.profile.follows u = false → s.enabled u = true →
      (s.level (motorInput u) = false → (s.unit u).motor = .stopped →
        ∃ t, exec (.motorAssert u) s = .next t ∧ PinTaken s t p true ∧ still t ∧ t.now = s.now ∧
          ((t.unit u).motor, (t.unit u).spinUpDue) =
            (if s.profile.spinUp = 0 then (.atSpeed, none)
             else (.spinningUp, some (s.now + s.profile.spinUp * 16000)))) ∧
      (s.level (motorInput u) = true →
        ∃ t, exec (.motorNegate u) s = .next t ∧ PinTaken s t p false ∧ still t ∧ t.now = s.now ∧
          (t.unit u).motor = .stopped ∧ (t.unit u).spinUpDue = none ∧ (t.unit u).mode = .quiet ∧
          t.windowOf u = false ∧ (s.rotating u = true → (t.unit u).bitCount = 0) ∧
          ∀ b, (s.buffer b).state = .dirty → (s.buffer b).ofUnit u = true → s.profile.flushOnStop = true →
            (s.unit u).motor ≠ .stopped → (s.nextFlushBlock b 0).isSome = true → s.wcu.window = none →
            (t.buffer b).state = .flushing ∧
              ((t.buffer b).flushClass = some 4 ∨ s.cache.waiting ≠ [] ∧ (t.buffer b).flushClass = some 2))) ∧
    ∀ m, (s.unit u).spinUpDue = some m → (s.unit u).motor = .spinningUp →
      ∃ t, exec (.spinUpExpiry u) s = .next t ∧ t.pins = s.pins ∧ still t ∧ t.now = max s.now m ∧
        (t.unit u).motor = .atSpeed ∧ (t.unit u).spinUpDue = none ∧
        ((s.unit u).media ≠ .empty → (t.unit u).bitCount = 0 ∧ (t.unit u).rotationStart = max s.now m)

/-- R34, R113, R114, R119: a STEP edge. That the row is a pulse, with STEP negated again and DIR's pin left at the
row's level, is log entry 22, the model's choice; pins that carry another input too are left out. -/
def Obligations.StepTaken : Prop :=
  ∀ (s : State) (inward : Bool) (p q : InPin), OnOwnPin s .step p → OnOwnPin s .dir q → NoHold s →
    ∃ t, exec (.step inward) s = .next t ∧ t.level .step = false ∧ t.level .dir = inward ∧
      (∀ r : InPin, r ≠ p → r ≠ q → t.pins.getLsbD r.val = s.pins.getLsbD r.val) ∧ t.now = s.now ∧
      ManagementSame s t ∧ ModesTaken t ∧
      ∀ u, MotorSame s t u ∧
        (s.level .wgate = true → HeadSame s t u) ∧
        (s.level .wgate = false →
          (s.selected u = false → HeadSame s t u) ∧
          (s.selected u = true →
            (t.unit u).lastDir = (if inward then .inward else .outward) ∧
            (t.unit u).latch = ((s.unit u).latch && (s.unit u).media != .ready) ∧
            let inside := if inward then (s.unit u).cylinder + 1 < s.profile.physical else 0 < (s.unit u).cylinder
            (inside →
              (t.unit u).cylinder = (if inward then (s.unit u).cylinder + 1 else (s.unit u).cylinder - 1) ∧
              (t.unit u).settleDue =
                (if s.profile.settle = 0 then none else some (s.now + s.profile.settle * 16000))) ∧
            (¬ inside →
              (t.unit u).cylinder = (s.unit u).cylinder ∧ (t.unit u).settleDue = (s.unit u).settleDue)))

/-- R80, R81, R85, R122: the opening of a window. -/
def Obligations.WindowOpened : Prop :=
  ∀ (s : State) (p : InPin), OnOwnPin s .wgate p → s.wcu.window = none → NoHold s →
    ∃ t, exec .wgateAssert s = .next t ∧ PinTaken s t p true ∧ ManagementSame s t ∧ ModesTaken t ∧ t.now = s.now ∧
      (∀ u, HeadSame s t u ∧ MotorSame s t u) ∧
      (s.level .wgate = true → t.wcu.window = none) ∧
      ((∀ u v, v ≠ u → s.selected u = true → s.selected v = false →
          (s.unit u).media ≠ .ready ∨ (s.unit u).motor ≠ .atSpeed) → t.wcu.window = none) ∧
      ∀ u v f, v ≠ u → s.level .wgate = false → s.selected u = true → s.selected v = false →
        (s.unit u).media = .ready → (s.unit u).motor = .atSpeed → s.format u = some f →
        t.wcu.window =
          some ⟨⟨u, (s.unit u).cylinder, s.head⟩, s.slotProtected u || s.card.lock,
            decide ((s.unit u).cylinder < f.cylinders ∧ s.head < f.sides)⟩ ∧
        (t.unit u).mode = .quiet ∧ t.wcu.locked = false ∧ t.wcu.run = 0 ∧ t.wcu.refEdge = none ∧
        ((s.slotProtected u || s.card.lock) = false →
          t.wcu.capture = .hunting ∧ t.wcu.period = some ((2 * 128000000 + f.rate * 1000) / (2 * (f.rate * 1000)))) ∧
        ((s.slotProtected u || s.card.lock) = true →
          t.wcu.capture = .idle ∧ t.wcu.period = none ∧
          (s.link.reports.length < 16 →
            (⟨.writeProtected, some u, some (s.unit u).cylinder, some s.head, none,
              (if s.slotProtected u then 1 else 0) + (if s.card.lock then 2 else 0)⟩ : Report) ∈ t.link.reports))

/-- R82, R83, R95, R99: the close of a window; R59, R60, R104 to R106: the judgement of a format capture and its
hand-off (CapturesPlaced says what onEntries does); R132, R133, R135: the eject that waits in HOLD moves on. That
EJECT_HOLD_EXPIRY brings the clock to the hold's moment is log entry 2, the model's choice; that a NORMAL eject waits
for a stopped fill's transaction in the phase RELEASE is log entry 18. -/
def Obligations.WindowClosed : Prop :=
  (∀ (s : State) (w : Window) (p : InPin), s.wcu.window = some w →
    let closed := fun (i : Instr) (n : Nat) =>
      ∃ t, exec i s = .next (State.followQueue s t) ∧ t.wcu = { Wcu.reset with pending := t.wcu.pending } ∧ t.now = n ∧
        ModesTaken t ∧ t.profile = s.profile ∧ t.formats = s.formats ∧ (∀ u, HeadSame s t u ∧ MotorSame s t u) ∧
        (NoHold s → ManagementSame s t) ∧
        (i ≠ .wgateNegate → t.pins = s.pins) ∧ (i = .wgateNegate → PinTaken s t p false) ∧
        (s.wcu.capture ≠ .format → t.wcu.pending = s.wcu.pending) ∧
        (s.wcu.capture = .field → s.link.reports.length < 16 →
          s.link.reports ++
              [⟨.writeFieldBad, some w.key.unit, some w.key.cylinder, some w.key.head, s.wcu.sector, 1⟩] <+:
            t.link.reports) ∧
        ∀ f, s.wcu.capture = .format → s.format w.key.unit = some f →
          let x := s.wcu.fmt.cut
          let c : Capture := ⟨w.key, none, .format x.fills⟩
          let posts := fun (kind : ReportKind) (sector : Option Nat) (detail : Nat) =>
            s.link.reports.length < 16 →
              s.link.reports ++
                  [⟨kind, some w.key.unit, some w.key.cylinder, some w.key.head, sector, detail⟩] <+:
                t.link.reports
          (∀ reason sector, rejection f w x = some (reason, sector) →
            posts .formatRejected sector reason ∧ t.wcu.pending = s.wcu.pending) ∧
          (rejection f w x = none →
            posts .formatAccepted none (x.start.getD 0 / 8) ∧
            (∀ b, s.holder w.key = some b → (s.buffer b).state.resident = true →
              t.wcu.pending = s.wcu.pending ∧
              (NoHold s → (t.buffer b).entries = c.onEntries (s.buffer b).entries ∧ (t.buffer b).lastWrite = some n)) ∧
            ((∀ b, s.holder w.key = some b → (s.buffer b).state = .filling) →
              ((s.unit w.key.unit).media = .ejecting →
                t.wcu.pending = s.wcu.pending ∧
                (s.link.reports.length < 15 →
                  (⟨.writeLost, some w.key.unit, some w.key.cylinder, some w.key.head, none, 3⟩ : Report) ∈
                    t.link.reports)) ∧
              ((s.unit w.key.unit).media ≠ .ejecting →
                (s.wcu.pending = none → t.wcu.pending = some c) ∧
                (s.wcu.pending ≠ none → t.wcu.pending = none))))
    MediaConsistent s →
    (OnOwnPin s .wgate p → s.level .wgate = true → closed .wgateNegate s.now) ∧
    ∀ m, s.wcu.ejectHoldDue = some m → closed .ejectHoldExpiry (max s.now m)) ∧
  ∀ (s : State) (w : Window) (p : InPin) (e : Executing) (mode : EjectMode), s.wcu.window = some w →
    s.eject = some ⟨w.key.unit, mode, .hold⟩ → s.executing = some e →
    MediaConsistent s → RequestsConsistent s → BusConsistent s →
    let u := w.key.unit
    let unsaved := fun b : BufferId =>
      (s.buffer b).ofUnit u = true ∧
        ((s.buffer b).state = .flushing ∨
          ((s.buffer b).state = .dirty ∨ (s.buffer b).state = .unsaved) ∧ (s.nextFlushBlock b 0).isSome = true)
    let accepted := fun b : BufferId =>
      s.wcu.capture = .format ∧ (∃ f, s.format u = some f ∧ rejection f w s.wcu.fmt.cut = none) ∧
        s.holder w.key = some b ∧ (s.buffer b).state.resident = true
    let movesOn := fun i : Instr =>
      ∃ t, exec i s = .next (State.followQueue s t) ∧
        let waits := fun ph : EjectPhase =>
          t.eject = some ⟨u, mode, ph⟩ ∧ t.executing = some e ∧ t.link.replies = s.link.replies ∧
            (t.unit u).media = .ejecting ∧ (t.unit u).mounted = (s.unit u).mounted ∧ t.slots = s.slots
        (mode = .normal →
          ((∃ b, unsaved b) ∨
              ∃ b p, accepted b ∧ s.span w.key = some p ∧
                ∃ d ∈ (s.buffer b).entries, p.start / 512 ≤ p.sectorLast d.number) →
          waits .save ∧
          ∃ v, t.cache.service = some v ∧ v.units = [u] ∧
            ∀ b, unsaved b → b ∈ v.open_ ∧ (t.buffer b).state = .flushing ∧ (t.buffer b).flushClass = some 2) ∧
        (mode = .force ∨
            (∀ b, (s.buffer b).ofUnit u = true → (s.buffer b).state ∉ [.dirty, .flushing, .unsaved]) ∧
              (∀ b, ¬ accepted b) →
          (s.unitInFlight u = true → waits .release) ∧
          (s.unitInFlight u = false →
            t.eject = none ∧ t.executing = none ∧ t.link.replies = s.link.replies ++ [⟨e.code, e.tag, .ok, []⟩] ∧
            (t.unit u).media = .empty ∧ (t.unit u).mounted = none ∧ ∀ b, (t.buffer b).ofUnit u = false))
    (OnOwnPin s .wgate p → s.level .wgate = true → movesOn .wgateNegate) ∧
    ∀ m, s.wcu.ejectHoldDue = some m → movesOn .ejectHoldExpiry

/-- R80, R85 to R88: a write transition; FieldsReceived and FormatJudged say what the decoder does with the
half-cells. The model's choices: the clock comes to the transition's moment (log entry 2), the row is a pulse of its
pin (log entry 22), and it carries the interval (log entry 26). -/
def Obligations.IntervalSeparated : Prop :=
  ∀ (s : State) (w : Window) (f : Format) (ticks : Nat) (p : InPin), OnOwnPin s .wdata p → NoHold s → BusConsistent s →
    s.wcu.window = some w → (s.unit w.key.unit).motor = .atSpeed → s.format w.key.unit = some f →
    ∃ t, exec (.writeTransition ticks) s = .next t ∧ PinTaken s t p false ∧ ManagementSame s t ∧ ModesTaken t ∧
      (∀ v, HeadSame s t v ∧ MotorSame s t v) ∧ t.wcu.window = some w ∧
      t.now = (match s.wcu.refEdge with | none => s.now | some e => max s.now (e + ticks)) ∧
      (∀ v g, s.rotating v = true → s.format v = some g → 0 < g.rate → (s.unit v).rotationStart ≤ t.now →
        Turned g (s.unit v) (t.unit v) t.now) ∧
      (w.prot = true → t.wcu = s.wcu) ∧
      ∀ h, w.prot = false → s.wcu.period = some h →
        let low := f.nominal - f.nominal / 16
        let high := f.nominal + f.nominal / 16
        let u := 16 * min 65535 ticks
        let n := (2 * u + h) / (2 * h)
        let band := if f.enc = .mfm then 2 ≤ n ∧ n ≤ 4 else 1 ≤ n ∧ n ≤ 2
        (s.wcu.refEdge = none → t.wcu = { s.wcu with refEdge := some s.now }) ∧
        (s.wcu.refEdge ≠ none →
          t.wcu.refEdge = some t.now ∧
          (band →
            let x : Wcu :=
              { s.wcu with
                refEdge := some t.now
                period := some (max (low : Int) (min (high : Int) (h + Int.tdiv ((u : Int) - n * h) (8 * n)))).toNat
                run := min 16 (s.wcu.run + 1)
                locked := s.wcu.locked || s.wcu.run + 1 == 16 }
            t.wcu.period = x.period ∧ t.wcu.run = x.run ∧ t.wcu.locked = x.locked ∧
            (x.locked = false → t.wcu = x) ∧
            (x.locked = true →
              t.wcu.cells.head? = some (some (t.position w.key.unit)) ∧
              t.wcu =
                { ((({ s with wcu := x } : State).passZeros f w (n - 1)).passCell f w
                      (some (t.position w.key.unit))).wcu with
                  pending := t.wcu.pending })) ∧
          (¬ band →
            t.wcu.period = some h ∧ t.wcu.run = 0 ∧ t.wcu.locked = false ∧
            (s.wcu.locked = false → t.wcu = { s.wcu with refEdge := some t.now, run := 0 }) ∧
            (s.wcu.locked = true → s.wcu.capture = .format → t.wcu.fmt = s.wcu.fmt.cut ∧ t.wcu.capture = .format) ∧
            (s.wcu.locked = true → s.wcu.capture = .field →
              t.wcu.capture = .hunting ∧
              (s.link.reports.length < 16 →
                (⟨.writeFieldBad, some w.key.unit, some w.key.cylinder, some w.key.head, s.wcu.sector, 2⟩ : Report) ∈
                  t.link.reports))))

/-- R35, R36, R42, R67: the end of a settle. That SETTLE_EXPIRY changes nothing with no settle running is log entry 3,
and its clock log entry 2: the model's choices. -/
def Obligations.SettleEnded : Prop :=
  ∀ (s : State) (u v : DriveId), v ≠ u →
    ((s.unit u).settleDue = none → exec (.settleExpiry u) s = .next (passed s)) ∧
    ∀ m, (s.unit u).settleDue = some m → NoHold s → BusConsistent s →
      ∃ t, exec (.settleExpiry u) s = .next t ∧ (t.unit u).settleDue = none ∧ t.now = max s.now m ∧
        HeadSame s t v ∧ (t.unit u).cylinder = (s.unit u).cylinder ∧ (t.unit u).lastDir = (s.unit u).lastDir ∧
        (t.unit u).latch = (s.unit u).latch ∧ (∀ w, MotorSame s t w) ∧ t.pins = s.pins ∧ ManagementSame s t ∧
        ModesTaken t ∧
        ∀ k, s.demand u = some k → (s.unit u).motor = .atSpeed → s.wcu.window = none →
          s.cache.waiting = [] → s.link.reports.length < 16 →
          (∀ b, (s.buffer b).holds k = true → (s.buffer b).state.resident = false) →
          ∃ detail, detail ≤ 2 ∧
            (⟨.trackMiss, some k.unit, some k.cylinder, some k.head, none, detail⟩ : Report) ∈ t.link.reports

/-- R20, R21, R29, R32, R76: the rotation. The model's choices: the clock is brought to the moment of the row, the
turning units with it (log entry 2), a row of a unit that does not turn changes nothing (log entry 3), and a jump
passes over the bits between (log entry 21). -/
def Obligations.RotationAdvanced : Prop :=
  (∀ (s : State) (u v : DriveId) (f : Format), v ≠ u →
    let moves := fun (i : Instr) (n : Nat) =>
      ∃ t, exec i s = .next t ∧ (t.unit u).bitCount = n ∧ (t.unit u).rotationStart = (s.unit u).rotationStart ∧
        t.now = max s.now ((s.unit u).rotationStart + n * 16000000 / (f.rate * 1000)) ∧ UnitTurned s t v ∧
        ManagementSame s t ∧ (∀ w, HeadSame s t w ∧ MotorSame s t w ∧ (t.unit w).mode = (s.unit w).mode) ∧
        t.pins = s.pins ∧ t.wcu = s.wcu ∧ t.cache = s.cache ∧ t.link = s.link ∧
        (s.demand u = none → s.demand v = none ∨ s.rotating v = false → t.buffers = s.buffers ∧ t.card = s.card) ∧
        (i = .resumeHoldEnd u → (t.unit u).hold = false)
    let l := f.rate * 1000 * 60 / f.spin
    let n := (s.unit u).bitCount
    (s.rotating u = true → s.format u = some f → 0 < l →
      moves (.bitBoundary u) (n + 1) ∧
      moves (.indexArrival u) ((n / l + 1) * l) ∧
      (n % l < f.rate * 1000 / 500 → moves (.indexRegionEnd u) (n / l * l + f.rate * 1000 / 500)) ∧
      ((s.unit u).hold = true → moves (.resumeHoldEnd u) (n / l * l + min l (8 * (n % l / 8 + 1))))) ∧
    (s.rotating u = false →
      ∀ i ∈ [Instr.bitBoundary u, .indexArrival u, .indexRegionEnd u, .resumeHoldEnd u], exec i s = .next (passed s))) ∧
  ∀ (s : State) (m : Nat),
    let t := s.runTo m
    t =
      { s with
        now := max s.now m
        units := t.units
        buffers := t.buffers
        card := { s.card with requests := t.card.requests } } ∧
    (∀ u, UnitTurned s t u ∧ HeadSame s t u ∧ MotorSame s t u ∧ (t.unit u).mode = (s.unit u).mode ∧
      (t.unit u).media = (s.unit u).media ∧ (t.unit u).mounted = (s.unit u).mounted) ∧
    ((∀ u, s.demand u = none ∨ s.rotating u = false) → t.buffers = s.buffers ∧ t.card = s.card)

/-- R65, R68, R71 to R73, R76: a bit of the read stream; R22 to R24, R69, R70: the bytes of a sector block and of its
fields. -/
def Obligations.BitEmitted : Prop :=
  (∀ (s t : State) (u : DriveId) (f : Format), s.rotating u = true → s.format u = some f →
    exec (.bitBoundary u) s = .next t →
    let pos := ((s.unit u).bitCount + 1) % (f.rate * 1000 * 60 / f.spin)
    let gap : Byte := if f.enc = .mfm then 0x4E else 0xFF
    let x := t.unit u
    let y := s.unit u
    let ordinary := x.clockCell = (if f.enc = .mfm then !y.prevBit && !x.dataCell else true)
    (y.mode = .quiet ∨ (y.hold = true ∧ pos % 8 ≠ 0) →
      x.dataCell = false ∧ x.clockCell = false ∧ x.prevBit = false) ∧
    (y.mode ≠ .quiet → y.hold = true → pos % 8 ≠ 0 → x.hold = true) ∧
    (y.mode ≠ .quiet → y.hold = false ∨ pos % 8 = 0 →
      x.hold = false ∧ x.prevBit = x.dataCell ∧
      (y.mode = .filler → x.dataCell = gap.getLsbD (7 - pos % 8) ∧ ordinary) ∧
      (y.mode = .track →
        let b := trackByteAt f x.taken (pos / 8)
        x.dataCell = b.value.getLsbD (7 - pos % 8) ∧
        (b.marked = false → ordinary) ∧
        (b.marked = true → x.clockCell = (markClock f.enc b.value).getLsbD (7 - pos % 8)) ∧
        (pos % 8 ≠ 0 → x.taken = y.taken) ∧
        ∀ (c : BufferId) (k : Nat) (e : Entry), s.holder (s.key u) = some c → k < f.sectors →
          (s.buffer c).entries[k]? = some e → pos % 8 = 0 →
          let j := pos / 8
          let id : List Byte :=
            [ BitVec.ofNat 8 (s.unit u).cylinder, BitVec.ofNat 8 s.head, BitVec.ofNat 8 e.number
            , BitVec.ofNat 8 f.sizeCode ]
          let preset : Word16 := if f.enc = .mfm then 0xCDB4 else 0xFFFF
          let idMark := f.prefixLen + k * f.blockLen + f.sync
          let dataMark := f.prefixLen + k * f.blockLen + f.dataMarkOffset
          (j = idMark ∨ (idMark < j ∧ j < idMark + f.mark + 6 ∧ y.hold = true) →
            x.taken = id ++ crcBytes (crc preset (0xFE :: id))) ∧
          (j = dataMark ∨ (dataMark < j ∧ j < dataMark + f.mark + f.size + 2 ∧ y.hold = true) →
            x.taken = e.data ++ crcBytes (crc preset (0xFB :: e.data))) ∧
          (y.hold = false →
            (idMark < j ∧ j < idMark + f.mark + 6) ∨ (dataMark < j ∧ j < dataMark + f.mark + f.size + 2) →
            x.taken = y.taken)))) ∧
  ∀ (f : Format) (taken : List Byte) (k i : Nat), k < f.sectors →
    let block := f.prefixLen + k * f.blockLen
    let at_ := fun j : Nat => trackByteAt f taken (block + j)
    let gap : Byte := if f.enc = .mfm then 0x4E else 0xFF
    let sync := if f.enc = .mfm then 12 else 6
    let mark := if f.enc = .mfm then 4 else 1
    let g2 := if f.enc = .mfm then 22 else 11
    let marks := fun final : Byte =>
      (if f.enc = .mfm then [⟨0xA1, true⟩, ⟨0xA1, true⟩, ⟨0xA1, true⟩, ⟨final, false⟩] else [⟨final, true⟩] : List TrackByte)
    (i < sync → at_ i = ⟨0, false⟩) ∧
    (i < mark → some (at_ (sync + i)) = (marks 0xFE)[i]?) ∧
    (i < 6 → at_ (sync + mark + i) = ⟨taken.getD i 0, false⟩) ∧
    (i < g2 → at_ (sync + mark + 6 + i) = ⟨gap, false⟩) ∧
    (i < sync → at_ (sync + mark + 6 + g2 + i) = ⟨0, false⟩) ∧
    (i < mark → some (at_ (2 * sync + mark + 6 + g2 + i)) = (marks 0xFB)[i]?) ∧
    (i < f.size + 2 → at_ (2 * sync + 2 * mark + 6 + g2 + i) = ⟨taken.getD i 0, false⟩) ∧
    (i < f.sectorGap → at_ (2 * sync + 2 * mark + 6 + g2 + f.size + 2 + i) = ⟨gap, false⟩)

/-- R47 to R49: the end of a fill's block, its failure, and its retries; R50, R51: the prediction of a key that has
become resident; R60: the pending record of its key; R45, R61: the end of the transaction of a fill that was promised
or dropped. That READ_PHASE_END may come with no CARD_BLOCK_BEGINS before it is log entry 21, and that a buffer
allocated to a demand key is stamped once log entry 16: the model's. An index arrival that comes while NO_RESPONSE is
waited for may retry an UNREADABLE buffer (R49): left out of the last part. -/
def Obligations.FillsGoOn : Prop :=
  (∀ (s : State) (t : Transaction) (b : BufferId) (k : Key) (p : Span) (data : List Byte) (check : Word16),
    s.card.transaction = some t → t.requester = .fill b → t.kind = .readBlock → s.resetWaits = false →
    (s.buffer b).state = .filling → (s.buffer b).fate = .kept → (s.buffer b).key = some k → s.span k = some p →
    s.wcu.window = none → s.cache.waiting = [] → (∀ u, look s.cache.predictions u = none) →
    let still := fun x : State =>
      ManagementSame { s with card := { s.card with transaction := none, scratch := none } } x ∧
      x.card.transaction = none ∧ x.card.scratch = none ∧ ∀ u, HeadSame s x u ∧ MotorSame s x u
    let blk := (s.buffer b).block
    ((t.stage = .awaitBlock ∨ t.stage = .receiving) → data.length = 512 → crc 0 data = check →
      ∃ x, exec (.readPhaseEnd data check) s = .next x ∧ still x ∧
        (x.buffer b).key = some k ∧ (x.buffer b).fillRetries = (s.buffer b).fillRetries ∧
        (x.buffer b).entries.length = (s.buffer b).entries.length ∧
        (x.buffer b).entries.map Entry.number = (s.buffer b).entries.map Entry.number ∧
        ((∀ c, s.wcu.pending = some c → c.key = k → blk ≠ (p.start + p.length - 1) / 512) →
          x.wcu = s.wcu ∧
          ∀ (i j : Nat) (e : Entry), (s.buffer b).entries[i]? = some e → j < e.data.length →
          ((x.buffer b).entries[i]?).bind (fun d => d.data[j]?) =
            if (p.start + (e.number - p.first) * p.size + j) / 512 = blk then
              some (data.getD ((p.start + (e.number - p.first) * p.size + j) % 512) 0)
            else e.data[j]?) ∧
        (blk = (p.start + p.length - 1) / 512 →
          (x.buffer b).fillClass = none ∧
          ((∀ c, s.wcu.pending = some c → c.key ≠ k) →
            (x.buffer b).state = .valid ∧ ∀ e ∈ (x.buffer b).entries, e.dirty = false) ∧
          (s.demand k.unit ≠ some k ∨ s.profile.prefetch = false → ∀ u, look x.cache.predictions u = none) ∧
          (s.demand k.unit = some k → s.profile.prefetch = true → ∀ f, s.format k.unit = some f →
            let onward : Option Nat :=
              match (s.unit k.unit).lastDir with
              | .inward => some (k.cylinder + 1)
              | .outward => if 0 < k.cylinder then some (k.cylinder - 1) else none
            let next : Option Key :=
              if f.sides = 2 ∧ k.head = 0 then some ⟨k.unit, k.cylinder, 1⟩
              else (onward.filter (fun c => c < f.cylinders)).map fun c => ⟨k.unit, c, 0⟩
            let spare := fun c : BufferId =>
              s.current c = false ∧
                ((s.buffer c).state = .free ∨ (s.buffer c).state = .valid ∨ (s.buffer c).state = .unreadable)
            let held := fun q : Key => ∃ c, (s.buffer c).holds q = true
            (∀ q, next = some q → ¬ held q →
              ((∀ c, ¬ spare c) → ∃ m, look x.cache.predictions k.unit = some ⟨q, m⟩) ∧
              ((∃ c, spare c) →
                look x.cache.predictions k.unit = none ∧
                ∃ c, spare c ∧ (x.buffer c).state = .filling ∧ (x.buffer c).key = some q ∧
                  (x.buffer c).fillClass = some 5)) ∧
            ((∀ q, next = some q → held q) →
              (∀ u, look x.cache.predictions u = none) ∧
              ∀ c, c ≠ b → (x.buffer c).key = (s.buffer c).key ∧ (x.buffer c).state = (s.buffer c).state)) ∧
          ∀ c, s.wcu.pending = some c → c.key = k →
            (x.buffer b).state = .dirty ∧ (x.buffer b).lastWrite = some s.now ∧
            x.wcu = { s.wcu with pending := none } ∧
            (x.buffer b).entries =
              c.onEntries ((p.copyIn blk data (s.buffer b).entries).map fun e => { e with dirty := false })) ∧
        (blk ≠ (p.start + p.length - 1) / 512 → ((s.buffer b).fillClass = some 1 → s.current b = true) →
          (x.buffer b).state = .filling ∧ (x.buffer b).fillClass = (s.buffer b).fillClass ∧
          (x.buffer b).block = blk + 1 ∧
          ∃ r ∈ x.card.requests, r.kind = .readBlock ∧ r.requester = .fill b ∧ r.block = p.cardBlock (blk + 1) ∧
            r.cls = (s.buffer b).fillClass.getD 5)) ∧
    ∀ i r, failureAt i t.stage = some r → t.attempt = 2 →
      ∃ x, exec i s = .next x ∧ still x ∧ (x.buffer b).state = .unreadable ∧ (x.buffer b).fillClass = none ∧
        (x.buffer b).key = some k ∧ (x.buffer b).fillRetries = (s.buffer b).fillRetries ∧
        (s.link.reports.length < 16 →
          s.link.reports ++
              [⟨.fillFailed, some k.unit, some k.cylinder, some k.head, none, (s.buffer b).fillRetries + 1⟩] <+:
            x.link.reports) ∧
        ((∀ c, s.wcu.pending = some c → c.key ≠ k) → x.wcu = s.wcu) ∧
        ∀ c, s.wcu.pending = some c → c.key = k →
          x.wcu = { s.wcu with pending := none } ∧
          (s.link.reports.length < 15 →
            s.link.reports ++
                [ ⟨.fillFailed, some k.unit, some k.cylinder, some k.head, none, (s.buffer b).fillRetries + 1⟩
                , ⟨.writeLost, some k.unit, some k.cylinder, some k.head, c.sector, 4⟩ ] <+:
              x.link.reports)) ∧
  (∀ (s : State) (u v : DriveId) (k : Key) (b : BufferId) (f : Format) (p : Span), v ≠ u → s.rotating u = true →
    s.format u = some f → s.demand u = some k → s.holder k = some b → s.span k = some p →
    let alone := s.demand v = none ∨ s.rotating v = false
    ∃ t, exec (.indexArrival u) s = .next t ∧
      ((s.buffer b).state = .unreadable → (s.buffer b).fillRetries < 3 →
        0 < f.rate * 1000 * 60 / f.spin →
        t.buffer b =
          { s.buffer b with
            state := .filling, fillClass := some 1, fillRetries := (s.buffer b).fillRetries + 1
            block := p.start / 512 } ∧
        ⟨.readBlock, p.cardBlock (p.start / 512), .fill b, 1, s.moment + 1, none⟩ ∈ t.card.requests ∧
        s.card.requests <+: t.card.requests ∧
        (alone →
          t.card.requests =
            s.card.requests ++ [⟨.readBlock, p.cardBlock (p.start / 512), .fill b, 1, s.moment + 1, none⟩] ∧
          ∀ c, c ≠ b → t.buffer c = s.buffer c)) ∧
      ((s.buffer b).state ≠ .unreadable ∨ 3 ≤ (s.buffer b).fillRetries →
        t.buffer b = s.buffer b ∧ (alone → t.buffers = s.buffers ∧ t.card = s.card))) ∧
  ∀ (s : State) (i : Instr) (t : Transaction) (b : BufferId), s.card.transaction = some t → t.requester = .fill b →
    t.kind = .readBlock → s.resetWaits = false → (s.buffer b).state = .filling → RequestsConsistent s →
    BusConsistent s → s.cache.waiting = [] → (∀ u, look s.cache.predictions u = none) →
    (i = .noResponse → ∀ c, (s.buffer c).state = .unreadable → 3 ≤ (s.buffer c).fillRetries) →
    ((t.stage = .awaitBlock ∨ t.stage = .receiving) ∧
        (∃ data : List Byte, i = .readPhaseEnd data (crc 0 data) ∧ data.length = 512) ∨
      (failureAt i t.stage).isSome = true ∧ t.attempt = 2) →
    let gone := fun x : State =>
      ManagementSame { s with card := { s.card with transaction := none, scratch := none } } x ∧
      x.card.transaction = none ∧ x.card.scratch = none ∧ x.link = s.link ∧ x.wcu = s.wcu ∧
      (∀ c, c ≠ b → x.buffer c = s.buffer c) ∧ ∀ u, HeadSame s x u ∧ MotorSame s x u
    ((s.buffer b).fate = .dropped →
      ∃ x, exec i s = .next x ∧ gone x ∧ x.buffer b = Buffer.free ∧ x.card.requests = s.card.requests) ∧
    ∀ u k f p, (s.buffer b).fate = .promised u → s.demand u = some k → s.format k.unit = some f → s.span k = some p →
      ∃ x, exec i s = .next x ∧ gone x ∧ (x.buffer b).state = .filling ∧ (x.buffer b).key = some k ∧
        (x.buffer b).fillClass = some 1 ∧ (x.buffer b).fate = .kept ∧ (x.buffer b).fillRetries = 0 ∧
        (x.buffer b).recency = some (s.cache.recency + 1) ∧ (x.buffer b).block = p.start / 512 ∧
        (x.buffer b).entries.map Entry.number = f.slotOrder k.cylinder k.head ∧
        (∀ e ∈ (x.buffer b).entries, e.dirty = false ∧ e.data.length = f.size) ∧
        x.card.requests =
          s.card.requests ++ [⟨.readBlock, p.cardBlock (p.start / 512), .fill b, 1, s.moment + 1, none⟩]

/-- R52 to R54: a timed write-back. That the row changes nothing for a buffer that is not DIRTY or has no last write
is log entry 3, and its clock log entry 2: the model's choices. -/
def Obligations.WriteBackStarted : Prop :=
  ∀ (s : State) (b : BufferId), NoHold s → BusConsistent s →
    ((s.buffer b).state ≠ .dirty ∨ (s.buffer b).lastWrite = none →
      exec (.writeBackDelayExpiry b) s = .next (passed s)) ∧
    ∀ m k p e, (s.buffer b).state = .dirty → (s.buffer b).lastWrite = some m → (s.buffer b).key = some k →
      s.span k = some p → s.cache.waiting = [] → e ∈ (s.buffer b).entries → e.dirty = true → 0 < p.size →
      p.start / 512 ≤ p.sectorLast e.number →
      ∃ t blk r, exec (.writeBackDelayExpiry b) s = .next t ∧ t.now = max s.now (m + s.profile.writeBack * 16000) ∧
        (t.buffer b).state = .flushing ∧ (t.buffer b).flushClass = some 4 ∧ (t.buffer b).block = blk ∧
        (t.buffer b).entries = (s.buffer b).entries ∧
        (∃ d ∈ (s.buffer b).entries, d.dirty = true ∧ blk ≤ p.sectorLast d.number ∧
          blk = max (p.start / 512) (p.sectorFirst d.number)) ∧
        (∀ d ∈ (s.buffer b).entries, d.dirty = true → p.start / 512 ≤ p.sectorLast d.number →
          blk ≤ max (p.start / 512) (p.sectorFirst d.number)) ∧
        r ∈ t.card.requests ∧ r.requester = .flush b ∧ r.cls = 4 ∧ r.block = p.cardBlock blk ∧
        (r.kind, r.range) = (if p.interior blk then (.writeBlock, none) else (.merge, some (p.range blk))) ∧
        MediaSame s t ∧ t.pins = s.pins ∧ ∀ u, HeadSame s t u ∧ MotorSame s t u

/-- R40, R43, R44, R47, R51: the start of a fill; R45: a prefetch fill taken for a demand fill. The model's choices: a
buffer whose fill has been promised or dropped holds its key no more (log entry 14), and a buffer that is allocated to
a demand key is stamped once (log entry 16). That no pass over the waiting fills is owed and that a fill whose key no
unit demands is at class 5 are of the invariant RequestsConsistent; two recencies that are equal are left out, which
no run has. -/
def Obligations.FillsStarted : Prop :=
  (∀ (s : State) (u v : DriveId) (k : Key) (b : BufferId) (f : Format) (p : Span), v ≠ u → NoHold s → BusConsistent s →
    s.format k.unit = some f → s.span k = some p → (∀ c, (s.buffer c).holds k = false) →
    let spare := fun c : BufferId =>
      s.current c = false ∧ ((s.buffer c).state = .valid ∨ (s.buffer c).state = .unreadable)
    let age := fun c : BufferId => (s.buffer c).recency.getD 0
    ((s.buffer b).state = .free ∧ (∀ c, c < b → (s.buffer c).state ≠ .free) ∨
      (∀ c, (s.buffer c).state ≠ .free) ∧ spare b ∧ ∀ c, c ≠ b → spare c → age b < age c) →
    let fills := fun (i : Instr) (cls : Nat) =>
      ∃ t r, exec i s = .next t ∧ (t.buffer b).state = .filling ∧ (t.buffer b).key = some k ∧
        (t.buffer b).fillClass = some cls ∧ (t.buffer b).entries.map Entry.number = f.slotOrder k.cylinder k.head ∧
        (∀ e ∈ (t.buffer b).entries, e.dirty = false ∧ e.data.length = f.size) ∧ (t.buffer b).flushFailures = 0 ∧
        (t.buffer b).fillRetries = 0 ∧ (t.buffer b).recency = some (s.cache.recency + 1) ∧
        r ∈ t.card.requests ∧ r.requester = .fill b ∧ r.cls = cls ∧ r.kind = .readBlock ∧
        r.block = p.cardBlock (p.start / 512) ∧ ManagementSame s t ∧ t.now = s.now ∧ t.pins = s.pins ∧
        (i = .demandFillResumed → t.cache.waiting = []) ∧
        (i = .prefetchActedOn → look t.cache.predictions u = none) ∧ ∀ w, HeadSame s t w ∧ MotorSame s t w
    (s.cache.waiting = [u] → s.demand u = some k → fills .demandFillResumed 1) ∧
    (s.cache.waiting = [] → (s.demand 0 ≠ some k ∧ s.demand 1 ≠ some k) → look s.cache.predictions v = none →
      (∃ m, look s.cache.predictions u = some ⟨k, m⟩) → fills .prefetchActedOn 5)) ∧
  ∀ (s : State) (u : DriveId) (k : Key) (b : BufferId) (f : Format) (p : Span), NoHold s → BusConsistent s →
    s.format k.unit = some f → s.span k = some p → (∀ c, (s.buffer c).holds k = false) →
    s.cache.waiting = [u] → s.demand u = some k → s.cache.passDue = false →
    (∀ c, s.current c = false → (s.buffer c).fills = true → (s.buffer c).fillClass = some 5) →
    let age := fun c : BufferId => (s.buffer c).recency.getD 0
    let none_ := fun test : Buffer → Prop => ∀ c, s.current c = false → ¬ test (s.buffer c)
    let least := fun test : Buffer → Prop =>
      s.current b = false ∧ test (s.buffer b) ∧
        ∀ c, c ≠ b → s.current c = false → test (s.buffer c) → age b < age c
    let ready := fun x : Buffer => x.state = .free ∨ x.state = .valid ∨ x.state = .unreadable
    let prefetch := fun x : Buffer => x.state = .filling ∧ x.fate = .kept ∧ x.fillClass = some 5
    let dirty := fun x : Buffer => x.state = .dirty
    (none_ ready → least prefetch →
      ∃ t, exec .demandFillResumed s = .next t ∧ t.cache.waiting = [] ∧ ManagementSame s t ∧
        (s.inFlight = some (.fill b) → t.buffer b = { s.buffer b with fate := .promised u }) ∧
        (s.inFlight ≠ some (.fill b) →
          (t.buffer b).state = .filling ∧ (t.buffer b).key = some k ∧ (t.buffer b).fillClass = some 1 ∧
          (t.buffer b).fate = .kept ∧ (t.buffer b).recency = some (s.cache.recency + 1) ∧
          (t.buffer b).entries.map Entry.number = f.slotOrder k.cylinder k.head ∧
          ⟨.readBlock, p.cardBlock (p.start / 512), .fill b, 1, s.moment + 1, none⟩ ∈ t.card.requests ∧
          ∀ r ∈ t.card.requests, r.requester = .fill b → r.cls = 1 ∧ r.block = p.cardBlock (p.start / 512))) ∧
    (none_ ready → none_ prefetch → least dirty → ∀ q blk, s.nextFlushBlock b 0 = some (q, blk) →
      ∃ t, exec .demandFillResumed s = .next t ∧ t.cache.waiting = [u] ∧ MediaSame s t ∧
        (t.buffer b).state = .flushing ∧ (t.buffer b).flushClass = some 2 ∧
        ∃ r ∈ t.card.requests, r.requester = .flush b ∧ r.cls = 2 ∧ r.block = q.cardBlock blk ∧
          r.kind = if q.interior blk then .writeBlock else .merge) ∧
    (none_ ready → none_ prefetch → none_ dirty →
      ∃ t, exec .demandFillResumed s = .next t ∧ t.cache.waiting = [u] ∧ ManagementSame s t ∧
        ∀ c, (s.buffer c).state ≠ .flushing → t.buffer c = s.buffer c)

/-- Every step keeps the queues of the link within their sizes, and leaves no command that could have started. -/
def Obligations.LinkStaysBounded : Prop :=
  ∀ s t : State, LinkBounded s → step s = .next t → LinkBounded t

/-- Every step keeps the profile in its ranges and each cylinder below the physical count. -/
def Obligations.ProfileStaysValid : Prop :=
  ∀ s t : State, ProfileValid s → step s = .next t → ProfileValid t

/-- Every step keeps the Card Port's items together. -/
def Obligations.CardStaysConsistent : Prop :=
  ∀ s t : State, CardConsistent s → step s = .next t → CardConsistent t

/-- Every step keeps units, slots, formats, the eject record and the waiting command together. -/
def Obligations.MediaStaysConsistent : Prop :=
  ∀ s t : State, MediaConsistent s → step s = .next t → MediaConsistent t

/-- Every step keeps each read stream mode at its conditions and a QUIET stream silent. -/
def Obligations.StreamsStayConsistent : Prop :=
  ∀ s t : State, StreamsConsistent s → MediaConsistent s → step s = .next t → StreamsConsistent t

/-- Every step keeps RequestsConsistent and BusConsistent. That no pass is owed and that failures are numbered are
about the model's own items (log entry 25). -/
def Obligations.RequestsStayConsistent : Prop :=
  ∀ s t : State, MediaConsistent s → step s = .next t →
    (RequestsConsistent s → RequestsConsistent t) ∧ (BusConsistent s → BusConsistent t)

/-- The invariants hold at State.reset. -/
def Obligations.ResetMeetsInvariants : Prop :=
  LinkBounded State.reset ∧ ProfileValid State.reset ∧ CardConsistent State.reset ∧ MediaConsistent State.reset ∧
    StreamsConsistent State.reset ∧ RequestsConsistent State.reset ∧ BusConsistent State.reset

/-- R8, R19 to R21, R74: the figures of rotation; R70 to R73: the encodings. -/
def Obligations.BytesEncoded : Prop :=
  (∀ f : Format,
    (∀ rate spin l : Nat,
      (rate, spin, l) ∈ [(125, 300, 25000), (125, 360, 20833), (250, 300, 50000), (250, 360, 41666), (300, 300, 60000),
        (300, 360, 50000), (500, 300, 100000), (500, 360, 83333)] →
      f.rate = rate → f.spin = spin →
      f.revolution = l ∧ f.trackBytes = l / 8 ∧ f.indexBits = 2 * rate ∧
        (rate ≠ 300 → ∀ j, f.bitTick j = j * (16000 / rate))) ∧
    (f.rate = 300 →
      [0, 1, 2, 3, 4, 5, 6].map f.bitTick = [0, 53, 106, 160, 213, 266, 320] ∧
      [0, 1, 2, 3, 4, 5, 6].map f.cellTick = [0, 26, 53, 80, 106, 133, 160])) ∧
  let cells := fun (e : Encoding) (prev : Bool) (x : TrackByte) =>
    (TrackByte.cells e prev x 8 0).foldl (fun (g : Nat) c => 2 * g + (if c then 1 else 0)) 0
  [0x00, 0x4E, 0xFE, 0xFB, 0xFC, 0xA1, 0xC2].map (fun x => cells .mfm false (.plain x)) =
      [0xAAAA, 0x9254, 0x5554, 0x5545, 0x5552, 0x44A9, 0x52A4] ∧
    [0x00, 0x4E, 0xFE, 0xFB, 0xFC].map (fun x => cells .mfm true (.plain x)) =
      [0x2AAA, 0x1254, 0x5554, 0x5545, 0x5552] ∧
    (∀ prev, cells .mfm prev ⟨0xA1, true⟩ = 0x4489 ∧ cells .mfm prev ⟨0xC2, true⟩ = 0x5224) ∧
    (∀ prev, cells .fm prev (.plain 0xFF) = 0xFFFF ∧ cells .fm prev (.plain 0x00) = 0xAAAA) ∧
    (∀ prev, [0xFC, 0xFE, 0xFB, 0xF8].map (fun x => cells .fm prev ⟨x, true⟩) = [0xF77A, 0xF57E, 0xF56F, 0xF56A]) ∧
    crc 0xFFFF [0xA1, 0xA1, 0xA1] = 0xCDB4

/-- R70, R92: check values. -/
def Obligations.FieldsCheck : Prop :=
  (∀ (preset : Word16) (xs : List Byte), crc preset (xs ++ crcBytes (crc preset xs)) = 0) ∧
    ∀ (e : Encoding) (x : Field), crc e.markPreset (x.mark :: x.emitted e) = 0 ∧
      (x.emitted e).length = x.content.length + 2

/-- R3, R25 to R27: slot orders. -/
def Obligations.SlotOrderPermutes : Prop :=
  ∀ (f : Format) (c h : Nat), FormatSound f → h < f.sides →
    (f.slotOrder c h).length = f.sectors ∧
    (f.slotOrder c h).Perm ((List.range f.sectors).map fun j => f.first + j) ∧
    (∀ k, k < f.sectors → (f.slotOrder c h)[(k + c * f.skew) % f.sectors]? = (f.arrangement h)[k]?) ∧
    (∀ l, f.lists = [l] → f.arrangement h = l) ∧ (∀ l m, f.lists = [l, m] → f.arrangement h = if h = 0 then l else m) ∧
    (f.lists = [] → f.interleave = 1 → f.arrangement h = (List.range f.sectors).map fun k => f.first + k)

/-- R28, R93: the match of a field to its slot. -/
def Obligations.SlotMatchUnique : Prop :=
  ∀ (f : Format) (tolerance p k : Nat), FormatSound f → tolerance ≤ 64 → p < f.revolution →
    let near := fun j => min ((p - f.expected j) + (f.expected j - p))
      (f.revolution - ((p - f.expected j) + (f.expected j - p))) ≤ 8 * tolerance
    (matchSlot f tolerance p = some k ↔ k < f.sectors ∧ near k) ∧
    (∀ j, j < f.sectors → k < f.sectors → near j → near k → j = k) ∧
    f.expected k = 8 * (f.prefixLen + k * f.blockLen + if f.enc = .mfm then 56 else 30)

/-- R16 to R18: image arithmetic. -/
def Obligations.BlocksTranslated : Prop :=
  (∀ es : List Extent,
      es.Pairwise (fun a b => a.start + a.count ≤ b.start ∨ b.start + b.count ≤ a.start) →
      (∀ i, (cardBlockIn es i).isSome = true ↔ i < (es.map Extent.count).sum) ∧
      (∀ i c, cardBlockIn es i = some c →
        (∃ e ∈ es, e.start ≤ c ∧ c < e.start + e.count) ∧ imageBlockIn es 0 c = some i) ∧
      ∀ i j c, cardBlockIn es i = some c → cardBlockIn es j = some c → i = j) ∧
    (∀ (f : Format) (d : SlotData) (c h c' h' : Nat), f.inside c h = true → f.inside c' h' = true →
      (c, h) ≠ (c', h') →
      spanStart f d c h + f.spanLen ≤ spanStart f d c' h' ∨ spanStart f d c' h' + f.spanLen ≤ spanStart f d c h) ∧
    ∀ (f : Format) (d : SlotData) (c h : Nat), 0 < f.size → 0 < f.sectors →
      let p : Span := ⟨spanStart f d c h, f.spanLen, f.size, f.first, d.extents⟩
      p.start = d.offset + (c * f.sides + h) * f.sectors * f.size ∧ p.length = f.sectors * f.size ∧
      (∀ a, p.start ≤ a → a < p.start + p.length →
        ∃ r, f.first ≤ r ∧ r < f.first + f.sectors ∧ p.sectorStart r ≤ a ∧ a < p.sectorStart r + f.size ∧
          ∀ q, f.first ≤ q → q < f.first + f.sectors → p.sectorStart q ≤ a → a < p.sectorStart q + f.size → q = r) ∧
      (∀ b, (∃ o, o < 512 ∧ p.start ≤ 512 * b + o ∧ 512 * b + o < p.start + p.length) ↔
        p.firstBlock ≤ b ∧ b ≤ p.lastBlock) ∧
      (∀ b, p.firstBlock ≤ b → b ≤ p.lastBlock →
        (p.interior b = true ↔ ∀ o, o < 512 → p.start ≤ 512 * b + o ∧ 512 * b + o < p.start + p.length) ∧
        ∀ o, o < 512 →
          ((p.range b).1 ≤ o ∧ o < (p.range b).2 ↔ p.start ≤ 512 * b + o ∧ 512 * b + o < p.start + p.length)) ∧
      (p.start % 512 ≠ 0 → p.interior p.firstBlock = false) ∧
      ((p.start + p.length) % 512 ≠ 0 → p.interior p.lastBlock = false)

/-- R104 to R106: the judgement of a format pass. -/
def Obligations.FormatJudged : Prop :=
  ∀ (f : Format) (w : Window) (x : FormatCapture),
    let idBad := fun e : FormatEntry =>
      ¬ (e.idGood = true ∧ e.cylinder = some (BitVec.ofNat 8 w.key.cylinder) ∧
        e.head = some (BitVec.ofNat 8 w.key.head) ∧ e.size = some (BitVec.ofNat 8 f.sizeCode))
    let inRange := fun e : FormatEntry => ∃ n : Byte, e.sector = some n ∧ f.first ≤ n.toNat ∧
      n.toNat ≤ f.first + f.sectors - 1
    let uniform := fun e : FormatEntry => ∃ v, e.data = .uniform v
    (x.overflow = true → rejection f w x = some (6, none)) ∧
    (x.overflow = false → x.entries.length ≠ f.sectors → rejection f w x = some (1, none)) ∧
    (x.overflow = false → x.entries.length = f.sectors →
      ((∃ e ∈ x.entries, idBad e) → ∃ n, rejection f w x = some (2, n)) ∧
      ((∀ e ∈ x.entries, ¬ idBad e) →
        (¬ ((∀ e ∈ x.entries, inRange e) ∧ (x.entries.map FormatEntry.sector).Nodup) →
          ∃ n, rejection f w x = some (3, n)) ∧
        ((∀ e ∈ x.entries, inRange e) → (x.entries.map FormatEntry.sector).Nodup →
          ((∃ e ∈ x.entries, ¬ uniform e) → ∃ n, rejection f w x = some (4, n)) ∧
          ((∀ e ∈ x.entries, uniform e) →
            rejection f w x = (if w.inside then none else some (5, none)) ∧
            (f.first + f.sectors ≤ 256 → 1 ≤ f.sectors →
              (x.fills.map Prod.fst).Perm ((List.range f.sectors).map fun j => f.first + j))))))

/-- R89, R90: the marks; R92, R94, R96, R97: the bytes and the end of a field; R99 to R103: the gathering of a format
pass. -/
def Obligations.FieldsReceived : Prop :=
  (∀ w : Wcu,
    let g := groupOf w.cells
    (w.progress = none → 16 ≤ w.cells.length → g = 0x4489 ∨ g = 0x5224 →
      seekMark .mfm w =
        ({ w with
            progress := some ⟨if g = 0x4489 then .a1 else .c2, 1, ((w.cells[14]?).getD none).getD 0⟩, aligned := 0 },
          .nothing)) ∧
    (∀ p, w.progress = some p → w.aligned = 15 →
      (p.count < 3 → g = (match p.kind with | .a1 => 0x4489 | .c2 => 0x5224) →
        seekMark .mfm w = ({ w with progress := some { p with count := p.count + 1 }, aligned := 0 }, .nothing)) ∧
      (3 ≤ p.count → p.kind = .a1 →
        (dataOf g = 0xFB ∨ dataOf g = 0xF8 →
          seekMark .mfm w = ({ w with progress := none, aligned := 0 }, .dataMark (dataOf g) p.stamp)) ∧
        (dataOf g = 0xFE → seekMark .mfm w = ({ w with progress := none, aligned := 0 }, .idMark p.stamp)) ∧
        (dataOf g ≠ 0xFB → dataOf g ≠ 0xF8 → dataOf g ≠ 0xFE → (seekMark .mfm w).2 = .badMark)) ∧
      (3 ≤ p.count → p.kind = .c2 →
        (dataOf g = 0xFC → seekMark .mfm w = ({ w with progress := none, aligned := 0 }, .indexMark p.stamp)) ∧
        (dataOf g ≠ 0xFC → (seekMark .mfm w).2 = .nothing))) ∧
    (16 ≤ w.cells.length →
      let stamp := ((w.cells[15]?).getD none).getD 0
      (g = 0xF57E → (seekMark .fm w).2 = .idMark stamp) ∧ (g = 0xF56F → (seekMark .fm w).2 = .dataMark 0xFB stamp) ∧
      (g = 0xF56A → (seekMark .fm w).2 = .dataMark 0xF8 stamp) ∧ (g = 0xF77A → (seekMark .fm w).2 = .indexMark stamp))) ∧
  (∀ (s : State) (f : Format) (w : Window) (b : Byte),
    let bytes := s.wcu.fieldBytes ++ [b]
    let sum := s.wcu.remainder.map fun r => crcByte r b
    let ended : State :=
      { s with
        wcu :=
          { s.wcu with
            capture := .hunting, aligned := 0, markPos := none, slot := none, sector := none, fieldBytes := []
            remainder := none } }
    let report := fun (kind : ReportKind) (detail : Nat) =>
      ended.report ⟨kind, some w.key.unit, some w.key.cylinder, some w.key.head, s.wcu.sector, detail⟩
    (bytes.length ≠ f.size + 2 →
      s.receiveByte f w b = { s with wcu := { s.wcu with fieldBytes := bytes, remainder := sum } }) ∧
    (bytes.length = f.size + 2 →
      (w.inside = false → s.receiveByte f w b = report .writeStray 2) ∧
      (w.inside = true →
        (s.wcu.slot = none → s.receiveByte f w b = report .writeStray 1) ∧
        ∀ k, s.wcu.slot = some k →
          (sum ≠ some 0 → s.receiveByte f w b = report .writeFieldBad 3) ∧
          (sum = some 0 →
            s.receiveByte f w b = ended.handCapture ⟨w.key, s.wcu.sector, .data k (bytes.take f.size)⟩)))) ∧
  (∀ (x : FormatCapture) (e : Encoding) (mark c h r n k1 k2 : Byte) (bytes : List Byte) (size : Nat),
    let seek : FormatCapture :=
      { x with
        phase := some .seeking, owner := none, received := 0, remainder := none, firstByte := none, uniform := true }
    let ids := [c, h, r, n, k1, k2].foldl FormatCapture.takeId (x.idMark e)
    let datas := bytes.foldl (fun y b => y.takeData size b) (x.dataMark e mark)
    let found : DataState :=
      if crc e.markPreset (mark :: bytes) ≠ 0 then .bad
      else if (bytes.take size).all (fun b => b == bytes.getD 0 0) then .uniform (bytes.getD 0 0)
      else .nonuniform
    (x.entries.length < 64 →
      ids =
        { seek with
          entries :=
            x.entries ++
              [⟨some c, some h, some r, some n, crc e.markPreset [0xFE, c, h, r, n, k1, k2] == 0, .absent⟩] }) ∧
    (64 ≤ x.entries.length → ids = { seek with overflow := true }) ∧
    (0 < size → bytes.length = size + 2 →
      (x.overflow = true ∨ x.entries = [] → datas = seek) ∧
      ∀ before last, x.overflow = false → x.entries = before ++ [last] →
        datas =
          { seek with
            entries := before ++ [{ last with data := if last.data = .absent then found else .bad }] }) ∧
    (∀ i v, x.owner = some (some i) → x.entries[i]? = some v → x.phase = some .data →
      x.cut = { seek with entries := x.entries.set i { v with data := .bad } }) ∧
    (x.phase = some .data → x.owner = some none → x.cut = seek) ∧ (x.phase = some .id → x.cut = seek) ∧
    (x.phase = none ∨ x.phase = some .seeking → x.cut = x)) ∧
  ∀ (s : State) (f : Format) (w : Window) (stamp : Nat) (mark : Byte),
    let begun := fun fmt : FormatCapture =>
      ({ s with wcu := { s.wcu with capture := .format, progress := none, aligned := 0, fmt := fmt } } : State)
    let start : FormatCapture := { FormatCapture.reset with start := some stamp, phase := some .seeking }
    s.foundHunting f w (.idMark stamp) = begun (start.idMark f.enc) ∧
    s.foundHunting f w (.indexMark stamp) = begun start ∧
    s.foundHunting f w .badMark =
      s.report ⟨.writeFieldBad, some w.key.unit, some w.key.cylinder, some w.key.head, none, 4⟩ ∧
    s.foundSeeking f (.idMark stamp) = { s with wcu := { s.wcu with fmt := s.wcu.fmt.idMark f.enc } } ∧
    s.foundSeeking f (.dataMark mark stamp) = { s with wcu := { s.wcu with fmt := s.wcu.fmt.dataMark f.enc mark } } ∧
    s.foundSeeking f (.indexMark stamp) = s ∧ s.foundSeeking f .badMark = s ∧ s.foundSeeking f .nothing = s

/-- R59, R60, R97, R106, R107: captures into the cache. That a data capture leaves the attempt in progress as it is,
and which blocks of it a format capture marks, is log entry 36. -/
def Obligations.CapturesPlaced : Prop :=
  ∀ (s : State) (c : Capture),
    let lost := fun (x : Capture) (detail : Nat) =>
      (⟨.writeLost, some x.key.unit, some x.key.cylinder, some x.key.head, x.sector, detail⟩ : Report)
    (∀ b, s.holder c.key = some b → (s.buffer b).state.resident = true →
      s.handCapture c =
        s.setBuffer b
          { s.buffer b with
            lastWrite := some s.now
            state := if (s.buffer b).state = .valid then .dirty else (s.buffer b).state
            entries := c.onEntries (s.buffer b).entries
            attempt :=
              { (s.buffer b).attempt with
                formatted := match c.body with
                  | .data _ _ => (s.buffer b).attempt.formatted
                  | .format _ =>
                    if (s.buffer b).state = .flushing then
                      some (if (s.buffer b).attempt.lastTake = some (s.buffer b).block then (s.buffer b).block + 1
                        else (s.buffer b).block)
                    else (s.buffer b).attempt.formatted } }) ∧
    (∀ b, s.holder c.key = some b → (s.buffer b).state = .unreadable → s.handCapture c = s.report (lost c 4)) ∧
    ((s.holder c.key = none ∨ ∃ b, s.holder c.key = some b ∧ (s.buffer b).state = .filling) →
      ((s.unit c.key.unit).media = .ejecting → s.handCapture c = s.report (lost c 3)) ∧
      ((s.unit c.key.unit).media ≠ .ejecting →
        (s.wcu.pending = none → s.handCapture c = { s with wcu := { s.wcu with pending := some c } }) ∧
        ∀ held, s.wcu.pending = some held →
          s.handCapture c =
            (({ s with wcu := { s.wcu with pending := none } } : State).report (lost held 1)).report (lost c 1))) ∧
    (∀ slot bytes es, c.body = .data slot bytes →
      ∀ i : Nat, (c.onEntries es)[i]? =
        (es[i]?).map fun e => if i = slot then { e with data := bytes, dirty := true } else e) ∧
    ∀ fills es, c.body = .format fills →
      (c.onEntries es).map Entry.number = es.map Entry.number ∧ (∀ e ∈ c.onEntries es, e.dirty = true) ∧
      ∀ (i : Nat) (e : Entry), es[i]? = some e →
        (∀ v, fills.find? (fun v => v.1 = e.number) = some v →
          (c.onEntries es)[i]? = some ⟨e.number, true, List.replicate e.data.length v.2⟩) ∧
        (fills.find? (fun v => v.1 = e.number) = none → (c.onEntries es)[i]? = some ⟨e.number, true, e.data⟩)

/-- R56, R57: the end of a flush attempt; R44, R56: the waiting demand fills are then taken again, which the model
notes in its own item passDue (log entry 25); R54, R55: the end of a block that is not the attempt's last (the events
of log entry 21 among them). A buffer that is DIRTY again with its delay passed is log entry 29 and left out. -/
def Obligations.FlushAttemptEnded : Prop :=
  (∀ (s : State) (b : BufferId) (k : Key), (s.buffer b).key = some k → s.link.reports.length ≤ 14 →
    let x := s.buffer b
    let t := s.endAttempt b
    (x.attempt.failure = none → (∀ e ∈ x.entries, e.dirty = false) →
      t.buffer b = { x with state := .valid, flushFailures := 0, flushClass := none, attempt := Attempt.none } ∧
      t.link = s.link) ∧
    (x.attempt.failure = none → (∃ e ∈ x.entries, e.dirty = true) →
      (∀ m, x.lastWrite = some m → s.now < m + s.profile.writeBack * 16000) →
      t.buffer b = { x with state := .dirty, flushFailures := 0, flushClass := none, attempt := Attempt.none } ∧
      t.link = s.link) ∧
    (∀ e, x.attempt.failure = some e → x.flushFailures ≤ 3 →
      t.buffer b =
        { x with
          state := if 2 ≤ x.flushFailures then .unsaved else .dirty
          flushFailures := min 3 (x.flushFailures + 1)
          lastWrite := some s.now
          flushClass := none
          attempt := Attempt.none } ∧
      t.link.reports =
        s.link.reports ++
          [⟨.flushFailed, some k.unit, some k.cylinder, some k.head, none, min 3 (x.flushFailures + 1)⟩] ++
          (if x.flushFailures = 2 then
            [⟨.unsavedTrack, some k.unit, some k.cylinder, some k.head, none, (x.entries.filter Entry.dirty).length⟩]
          else [])) ∧
    t.cache.passDue = true ∧ ∀ c, c ≠ b → t.buffer c = s.buffer c) ∧
  ∀ (s : State) (i : Instr) (t : Transaction) (b : BufferId) (k : Key) (p : Span), s.card.transaction = some t →
    t.requester = .flush b → s.resetWaits = false → (s.buffer b).state = .flushing → (s.buffer b).key = some k →
    s.span k = some p → (∀ r, s.eject = some r → r.phase = .release → r.unit ≠ k.unit) →
    (∀ v, s.cache.service = some v → v.open_ ≠ []) → s.cache.waiting = [] → RequestsConsistent s → BusConsistent s →
    let x := s.buffer b
    let from_ := max (x.block + 1) (p.start / 512)
    let goesOn := fun (es : List Entry) (failed : List Nat) (failure : Option (Nat × Result)) =>
      (∃ d ∈ es, d.dirty = true ∧ from_ ≤ p.sectorLast d.number) →
      ∃ y blk r, exec i s = .next y ∧
        ManagementSame { s with card := { s.card with transaction := none, scratch := none } } y ∧
        y.card.transaction = none ∧ y.card.scratch = none ∧ y.link = s.link ∧ y.wcu = s.wcu ∧
        (∀ u, HeadSame s y u ∧ MotorSame s y u) ∧
        y.buffer b = { x with entries := es, block := blk, attempt := (y.buffer b).attempt } ∧
        (y.buffer b).attempt.failed = failed ∧ (y.buffer b).attempt.failure = failure ∧
        (∃ d ∈ es, d.dirty = true ∧ blk ≤ p.sectorLast d.number ∧ blk = max from_ (p.sectorFirst d.number)) ∧
        (∀ d ∈ es, d.dirty = true → from_ ≤ p.sectorLast d.number → blk ≤ max from_ (p.sectorFirst d.number)) ∧
        r ∈ y.card.requests ∧ r.requester = .flush b ∧ r.cls = x.flushClass.getD 4 ∧ r.block = p.cardBlock blk ∧
        (r.kind, r.range) = (if p.interior blk then (.writeBlock, none) else (.merge, some (p.range blk)))
    (i = .busyEnd → t.stage = .busy → goesOn x.entries x.attempt.failed x.attempt.failure) ∧
    ∀ r, failureAt i t.stage = some r → t.attempt = 2 →
      goesOn
        (x.entries.map fun e => if x.attempt.cleared.contains e.number then { e with dirty := true } else e)
        (x.attempt.failed ++
          (x.entries.filter fun e =>
            p.sectorFirst e.number ≤ x.block && x.block ≤ p.sectorLast e.number).map Entry.number)
        (match x.attempt.failure with | some e => some e | none => some (s.cache.failSerial, r))

/-- R109, R120, R121: the output pins; R74: the read stream's pulses; R67: the pulse that runs to its end (pulseEnd;
log entries 23 and 32 say when the model has one); R109, R126: the hardware reset. -/
def Obligations.OutputsCombined : Prop :=
  ∀ (s : State) (o : OutPin) (src : Source), look s.profile.outputs o = src →
    (s.resetPin = true → s.output o = false) ∧
    (s.resetPin = false → (src = .asserted → s.output o = true) ∧ (src = .negated → s.output o = false) ∧
    (src ≠ .asserted → src ≠ .negated →
      (s.selected 0 = false → s.selected 1 = false → s.output o = false) ∧
      (s.selected 0 = true → s.selected 1 = false → s.output o = s.source 0 src) ∧
      (s.selected 0 = false → s.selected 1 = true → s.output o = s.source 1 src) ∧
      (s.selected 0 = true → s.selected 1 = true → s.output o = (s.source 0 src || s.source 1 src)))) ∧
    ∀ u,
      let x := s.unit u
      let pulse := fun (f : Format) (cell : Bool) (i : Nat) =>
        let begins := x.rotationStart + i * 8000000 / (f.rate * 1000)
        cell = true ∧ begins ≤ s.now ∧ s.now < begins + 4
      (s.source u .rdata = true ↔
        s.now < x.pulseEnd ∨
          ∃ f, s.format u = some f ∧ (pulse f x.clockCell (2 * x.bitCount) ∨ pulse f x.dataCell (2 * x.bitCount + 1))) ∧
      (s.source u .index = true ↔
        (s.unit u).media = .ready ∧ (s.unit u).motor = .atSpeed ∧ s.inIndexRegion u = true) ∧
      (s.source u .track0 = true ↔ (s.unit u).cylinder = 0) ∧
      (s.source u .wprot = true ↔ (s.unit u).media ≠ .ready ∨ s.slotProtected u = true ∨ s.card.lock = true) ∧
      (s.source u .ready = true ↔
        (s.unit u).media = .ready ∧ (s.profile.readyMode = .mediaOnly ∨ (s.unit u).motor = .atSpeed)) ∧
      (s.source u .dchg = true ↔ (s.unit u).latch = true) ∧
      (s.source u .density = true ↔ (s.unit u).media = .ready ∧ ∃ f, s.format u = some f ∧ f.rate = 500)
end

