-- ==== Sys2Proof/Laws/State.lean ====
section
/-! SUPPORT. What each small update of the state leaves as it is: one lemma for each field and update, and the laws of
the tables of units, buffers and slots. -/

namespace Sys2Proof.Machine

/-! ### The tables -/

theorem unit_setUnit (s : State) (u v : DriveId) (x : UnitState) :
    (s.setUnit u x).unit v = if v = u then x else s.unit v := by
  by_cases h : v = u
  · subst h; simp [State.unit, State.setUnit]
  · rw [if_neg h]; exact look_put_ne _ _ _ _ (fun e => h e.symm)

theorem buffer_setBuffer (s : State) (b c : BufferId) (x : Buffer) :
    (s.setBuffer b x).buffer c = if c = b then x else s.buffer c := by
  by_cases h : c = b
  · subst h; simp [State.buffer, State.setBuffer]
  · rw [if_neg h]; exact look_put_ne _ _ _ _ (fun e => h e.symm)

theorem slot_setSlot (s : State) (n m : SlotId) (x : Slot) :
    (s.setSlot n x).slot m = if m = n then x else s.slot m := by
  by_cases h : m = n
  · subst h; simp [State.slot, State.setSlot]
  · rw [if_neg h]; exact look_put_ne _ _ _ _ (fun e => h e.symm)

@[simp] theorem unit_setUnit_self (s : State) (u : DriveId) (x : UnitState) : (s.setUnit u x).unit u = x := by
  simp [unit_setUnit]

@[simp] theorem buffer_setBuffer_self (s : State) (b : BufferId) (x : Buffer) : (s.setBuffer b x).buffer b = x := by
  simp [buffer_setBuffer]

@[simp] theorem slot_setSlot_self (s : State) (n : SlotId) (x : Slot) : (s.setSlot n x).slot n = x := by
  simp [slot_setSlot]

theorem unit_setUnit_ne (s : State) {u v : DriveId} (x : UnitState) (h : v ≠ u) :
    (s.setUnit u x).unit v = s.unit v := by
  simp [unit_setUnit, h]

theorem buffer_setBuffer_ne (s : State) {b c : BufferId} (x : Buffer) (h : c ≠ b) :
    (s.setBuffer b x).buffer c = s.buffer c := by
  simp [buffer_setBuffer, h]

theorem slot_setSlot_ne (s : State) {n m : SlotId} (x : Slot) (h : m ≠ n) :
    (s.setSlot n x).slot m = s.slot m := by
  simp [slot_setSlot, h]

theorem buffer_mapBuffer (s : State) (b c : BufferId) (g : Buffer → Buffer) :
    (s.mapBuffer b g).buffer c = if c = b then g (s.buffer b) else s.buffer c :=
  buffer_setBuffer s b c _

@[simp] theorem setUnit_unit (s : State) (u : DriveId) : s.setUnit u (s.unit u) = s := by
  simp [State.setUnit, State.unit, look, put]

@[simp] theorem setBuffer_buffer (s : State) (b : BufferId) : s.setBuffer b (s.buffer b) = s := by
  simp [State.setBuffer, State.buffer, look, put]

@[simp] theorem setSlot_slot (s : State) (n : SlotId) : s.setSlot n (s.slot n) = s := by
  simp [State.setSlot, State.slot, look, put]

/-! ### Reset -/

@[simp] theorem reset_unit (u : DriveId) : State.reset.unit u = UnitState.reset := look_replicate _ u

@[simp] theorem reset_buffer (b : BufferId) : State.reset.buffer b = Buffer.free := look_replicate _ b

@[simp] theorem reset_slot (n : SlotId) : State.reset.slot n = .vacant := look_replicate _ n

@[simp] theorem reset_pending : State.reset.pending = [] := rfl

/-! ### setUnit -/

@[simp] theorem setUnit_pending (s : State) (u : DriveId) (x : UnitState) : (s.setUnit u x).pending = s.pending := rfl
@[simp] theorem setUnit_now (s : State) (u : DriveId) (x : UnitState) : (s.setUnit u x).now = s.now := rfl
@[simp] theorem setUnit_moment (s : State) (u : DriveId) (x : UnitState) : (s.setUnit u x).moment = s.moment := rfl
@[simp] theorem setUnit_choices (s : State) (u : DriveId) (x : UnitState) : (s.setUnit u x).choices = s.choices := rfl
@[simp] theorem setUnit_resetPin (s : State) (u : DriveId) (x : UnitState) :
    (s.setUnit u x).resetPin = s.resetPin := rfl
@[simp] theorem setUnit_pins (s : State) (u : DriveId) (x : UnitState) : (s.setUnit u x).pins = s.pins := rfl
@[simp] theorem setUnit_profile (s : State) (u : DriveId) (x : UnitState) : (s.setUnit u x).profile = s.profile := rfl
@[simp] theorem setUnit_conflict (s : State) (u : DriveId) (x : UnitState) :
    (s.setUnit u x).conflict = s.conflict := rfl
@[simp] theorem setUnit_buffers (s : State) (u : DriveId) (x : UnitState) : (s.setUnit u x).buffers = s.buffers := rfl
@[simp] theorem setUnit_cache (s : State) (u : DriveId) (x : UnitState) : (s.setUnit u x).cache = s.cache := rfl
@[simp] theorem setUnit_wcu (s : State) (u : DriveId) (x : UnitState) : (s.setUnit u x).wcu = s.wcu := rfl
@[simp] theorem setUnit_formats (s : State) (u : DriveId) (x : UnitState) : (s.setUnit u x).formats = s.formats := rfl
@[simp] theorem setUnit_slots (s : State) (u : DriveId) (x : UnitState) : (s.setUnit u x).slots = s.slots := rfl
@[simp] theorem setUnit_eject (s : State) (u : DriveId) (x : UnitState) : (s.setUnit u x).eject = s.eject := rfl
@[simp] theorem setUnit_card (s : State) (u : DriveId) (x : UnitState) : (s.setUnit u x).card = s.card := rfl
@[simp] theorem setUnit_link (s : State) (u : DriveId) (x : UnitState) : (s.setUnit u x).link = s.link := rfl
@[simp] theorem setUnit_executing (s : State) (u : DriveId) (x : UnitState) :
    (s.setUnit u x).executing = s.executing := rfl
@[simp] theorem setUnit_buffer (s : State) (u : DriveId) (x : UnitState) (b' : BufferId) :
    (s.setUnit u x).buffer b' = s.buffer b' := rfl
@[simp] theorem setUnit_slot (s : State) (u : DriveId) (x : UnitState) (n' : SlotId) :
    (s.setUnit u x).slot n' = s.slot n' := rfl

/-! ### setBuffer -/

@[simp] theorem setBuffer_pending (s : State) (b : BufferId) (x : Buffer) :
    (s.setBuffer b x).pending = s.pending := rfl
@[simp] theorem setBuffer_now (s : State) (b : BufferId) (x : Buffer) : (s.setBuffer b x).now = s.now := rfl
@[simp] theorem setBuffer_moment (s : State) (b : BufferId) (x : Buffer) : (s.setBuffer b x).moment = s.moment := rfl
@[simp] theorem setBuffer_choices (s : State) (b : BufferId) (x : Buffer) :
    (s.setBuffer b x).choices = s.choices := rfl
@[simp] theorem setBuffer_resetPin (s : State) (b : BufferId) (x : Buffer) :
    (s.setBuffer b x).resetPin = s.resetPin := rfl
@[simp] theorem setBuffer_pins (s : State) (b : BufferId) (x : Buffer) : (s.setBuffer b x).pins = s.pins := rfl
@[simp] theorem setBuffer_profile (s : State) (b : BufferId) (x : Buffer) :
    (s.setBuffer b x).profile = s.profile := rfl
@[simp] theorem setBuffer_conflict (s : State) (b : BufferId) (x : Buffer) :
    (s.setBuffer b x).conflict = s.conflict := rfl
@[simp] theorem setBuffer_units (s : State) (b : BufferId) (x : Buffer) : (s.setBuffer b x).units = s.units := rfl
@[simp] theorem setBuffer_cache (s : State) (b : BufferId) (x : Buffer) : (s.setBuffer b x).cache = s.cache := rfl
@[simp] theorem setBuffer_wcu (s : State) (b : BufferId) (x : Buffer) : (s.setBuffer b x).wcu = s.wcu := rfl
@[simp] theorem setBuffer_formats (s : State) (b : BufferId) (x : Buffer) :
    (s.setBuffer b x).formats = s.formats := rfl
@[simp] theorem setBuffer_slots (s : State) (b : BufferId) (x : Buffer) : (s.setBuffer b x).slots = s.slots := rfl
@[simp] theorem setBuffer_eject (s : State) (b : BufferId) (x : Buffer) : (s.setBuffer b x).eject = s.eject := rfl
@[simp] theorem setBuffer_card (s : State) (b : BufferId) (x : Buffer) : (s.setBuffer b x).card = s.card := rfl
@[simp] theorem setBuffer_link (s : State) (b : BufferId) (x : Buffer) : (s.setBuffer b x).link = s.link := rfl
@[simp] theorem setBuffer_executing (s : State) (b : BufferId) (x : Buffer) :
    (s.setBuffer b x).executing = s.executing := rfl
@[simp] theorem setBuffer_unit (s : State) (b : BufferId) (x : Buffer) (u' : DriveId) :
    (s.setBuffer b x).unit u' = s.unit u' := rfl
@[simp] theorem setBuffer_slot (s : State) (b : BufferId) (x : Buffer) (n' : SlotId) :
    (s.setBuffer b x).slot n' = s.slot n' := rfl

/-! ### setSlot -/

@[simp] theorem setSlot_pending (s : State) (n : SlotId) (x : Slot) : (s.setSlot n x).pending = s.pending := rfl
@[simp] theorem setSlot_now (s : State) (n : SlotId) (x : Slot) : (s.setSlot n x).now = s.now := rfl
@[simp] theorem setSlot_moment (s : State) (n : SlotId) (x : Slot) : (s.setSlot n x).moment = s.moment := rfl
@[simp] theorem setSlot_choices (s : State) (n : SlotId) (x : Slot) : (s.setSlot n x).choices = s.choices := rfl
@[simp] theorem setSlot_resetPin (s : State) (n : SlotId) (x : Slot) : (s.setSlot n x).resetPin = s.resetPin := rfl
@[simp] theorem setSlot_pins (s : State) (n : SlotId) (x : Slot) : (s.setSlot n x).pins = s.pins := rfl
@[simp] theorem setSlot_profile (s : State) (n : SlotId) (x : Slot) : (s.setSlot n x).profile = s.profile := rfl
@[simp] theorem setSlot_conflict (s : State) (n : SlotId) (x : Slot) : (s.setSlot n x).conflict = s.conflict := rfl
@[simp] theorem setSlot_units (s : State) (n : SlotId) (x : Slot) : (s.setSlot n x).units = s.units := rfl
@[simp] theorem setSlot_buffers (s : State) (n : SlotId) (x : Slot) : (s.setSlot n x).buffers = s.buffers := rfl
@[simp] theorem setSlot_cache (s : State) (n : SlotId) (x : Slot) : (s.setSlot n x).cache = s.cache := rfl
@[simp] theorem setSlot_wcu (s : State) (n : SlotId) (x : Slot) : (s.setSlot n x).wcu = s.wcu := rfl
@[simp] theorem setSlot_formats (s : State) (n : SlotId) (x : Slot) : (s.setSlot n x).formats = s.formats := rfl
@[simp] theorem setSlot_eject (s : State) (n : SlotId) (x : Slot) : (s.setSlot n x).eject = s.eject := rfl
@[simp] theorem setSlot_card (s : State) (n : SlotId) (x : Slot) : (s.setSlot n x).card = s.card := rfl
@[simp] theorem setSlot_link (s : State) (n : SlotId) (x : Slot) : (s.setSlot n x).link = s.link := rfl
@[simp] theorem setSlot_executing (s : State) (n : SlotId) (x : Slot) : (s.setSlot n x).executing = s.executing := rfl
@[simp] theorem setSlot_unit (s : State) (n : SlotId) (x : Slot) (u' : DriveId) :
    (s.setSlot n x).unit u' = s.unit u' := rfl
@[simp] theorem setSlot_buffer (s : State) (n : SlotId) (x : Slot) (b' : BufferId) :
    (s.setSlot n x).buffer b' = s.buffer b' := rfl

/-! ### taken -/

@[simp] theorem taken_pending (s : State) : s.taken.pending = s.pending := rfl
@[simp] theorem taken_now (s : State) : s.taken.now = s.now := rfl
@[simp] theorem taken_choices (s : State) : s.taken.choices = s.choices := rfl
@[simp] theorem taken_resetPin (s : State) : s.taken.resetPin = s.resetPin := rfl
@[simp] theorem taken_pins (s : State) : s.taken.pins = s.pins := rfl
@[simp] theorem taken_profile (s : State) : s.taken.profile = s.profile := rfl
@[simp] theorem taken_conflict (s : State) : s.taken.conflict = s.conflict := rfl
@[simp] theorem taken_units (s : State) : s.taken.units = s.units := rfl
@[simp] theorem taken_buffers (s : State) : s.taken.buffers = s.buffers := rfl
@[simp] theorem taken_cache (s : State) : s.taken.cache = s.cache := rfl
@[simp] theorem taken_wcu (s : State) : s.taken.wcu = s.wcu := rfl
@[simp] theorem taken_formats (s : State) : s.taken.formats = s.formats := rfl
@[simp] theorem taken_slots (s : State) : s.taken.slots = s.slots := rfl
@[simp] theorem taken_eject (s : State) : s.taken.eject = s.eject := rfl
@[simp] theorem taken_card (s : State) : s.taken.card = s.card := rfl
@[simp] theorem taken_link (s : State) : s.taken.link = s.link := rfl
@[simp] theorem taken_executing (s : State) : s.taken.executing = s.executing := rfl
@[simp] theorem taken_unit (s : State) (u' : DriveId) :
    s.taken.unit u' = s.unit u' := rfl
@[simp] theorem taken_buffer (s : State) (b' : BufferId) :
    s.taken.buffer b' = s.buffer b' := rfl
@[simp] theorem taken_slot (s : State) (n' : SlotId) :
    s.taken.slot n' = s.slot n' := rfl

/-! ### post -/

@[simp] theorem post_pending (s : State) (kind : TransKind) (block : Nat) (q : Requester) (cls : Nat) (range : Option (Nat × Nat)) :
    (s.post kind block q cls range).pending = s.pending := rfl
@[simp] theorem post_now (s : State) (kind : TransKind) (block : Nat) (q : Requester) (cls : Nat) (range : Option (Nat × Nat)) :
    (s.post kind block q cls range).now = s.now := rfl
@[simp] theorem post_moment (s : State) (kind : TransKind) (block : Nat) (q : Requester) (cls : Nat) (range : Option (Nat × Nat)) :
    (s.post kind block q cls range).moment = s.moment := rfl
@[simp] theorem post_choices (s : State) (kind : TransKind) (block : Nat) (q : Requester) (cls : Nat) (range : Option (Nat × Nat)) :
    (s.post kind block q cls range).choices = s.choices := rfl
@[simp] theorem post_resetPin (s : State) (kind : TransKind) (block : Nat) (q : Requester) (cls : Nat) (range : Option (Nat × Nat)) :
    (s.post kind block q cls range).resetPin = s.resetPin := rfl
@[simp] theorem post_pins (s : State) (kind : TransKind) (block : Nat) (q : Requester) (cls : Nat) (range : Option (Nat × Nat)) :
    (s.post kind block q cls range).pins = s.pins := rfl
@[simp] theorem post_profile (s : State) (kind : TransKind) (block : Nat) (q : Requester) (cls : Nat) (range : Option (Nat × Nat)) :
    (s.post kind block q cls range).profile = s.profile := rfl
@[simp] theorem post_conflict (s : State) (kind : TransKind) (block : Nat) (q : Requester) (cls : Nat) (range : Option (Nat × Nat)) :
    (s.post kind block q cls range).conflict = s.conflict := rfl
@[simp] theorem post_units (s : State) (kind : TransKind) (block : Nat) (q : Requester) (cls : Nat) (range : Option (Nat × Nat)) :
    (s.post kind block q cls range).units = s.units := rfl
@[simp] theorem post_buffers (s : State) (kind : TransKind) (block : Nat) (q : Requester) (cls : Nat) (range : Option (Nat × Nat)) :
    (s.post kind block q cls range).buffers = s.buffers := rfl
@[simp] theorem post_cache (s : State) (kind : TransKind) (block : Nat) (q : Requester) (cls : Nat) (range : Option (Nat × Nat)) :
    (s.post kind block q cls range).cache = s.cache := rfl
@[simp] theorem post_wcu (s : State) (kind : TransKind) (block : Nat) (q : Requester) (cls : Nat) (range : Option (Nat × Nat)) :
    (s.post kind block q cls range).wcu = s.wcu := rfl
@[simp] theorem post_formats (s : State) (kind : TransKind) (block : Nat) (q : Requester) (cls : Nat) (range : Option (Nat × Nat)) :
    (s.post kind block q cls range).formats = s.formats := rfl
@[simp] theorem post_slots (s : State) (kind : TransKind) (block : Nat) (q : Requester) (cls : Nat) (range : Option (Nat × Nat)) :
    (s.post kind block q cls range).slots = s.slots := rfl
@[simp] theorem post_eject (s : State) (kind : TransKind) (block : Nat) (q : Requester) (cls : Nat) (range : Option (Nat × Nat)) :
    (s.post kind block q cls range).eject = s.eject := rfl
@[simp] theorem post_link (s : State) (kind : TransKind) (block : Nat) (q : Requester) (cls : Nat) (range : Option (Nat × Nat)) :
    (s.post kind block q cls range).link = s.link := rfl
@[simp] theorem post_executing (s : State) (kind : TransKind) (block : Nat) (q : Requester) (cls : Nat) (range : Option (Nat × Nat)) :
    (s.post kind block q cls range).executing = s.executing := rfl
@[simp] theorem post_unit (s : State) (kind : TransKind) (block : Nat) (q : Requester) (cls : Nat) (range : Option (Nat × Nat)) (u' : DriveId) :
    (s.post kind block q cls range).unit u' = s.unit u' := rfl
@[simp] theorem post_buffer (s : State) (kind : TransKind) (block : Nat) (q : Requester) (cls : Nat) (range : Option (Nat × Nat)) (b' : BufferId) :
    (s.post kind block q cls range).buffer b' = s.buffer b' := rfl
@[simp] theorem post_slot (s : State) (kind : TransKind) (block : Nat) (q : Requester) (cls : Nat) (range : Option (Nat × Nat)) (n' : SlotId) :
    (s.post kind block q cls range).slot n' = s.slot n' := rfl

/-! ### withdraw -/

@[simp] theorem withdraw_pending (s : State) (q : Requester) : (s.withdraw q).pending = s.pending := rfl
@[simp] theorem withdraw_now (s : State) (q : Requester) : (s.withdraw q).now = s.now := rfl
@[simp] theorem withdraw_moment (s : State) (q : Requester) : (s.withdraw q).moment = s.moment := rfl
@[simp] theorem withdraw_choices (s : State) (q : Requester) : (s.withdraw q).choices = s.choices := rfl
@[simp] theorem withdraw_resetPin (s : State) (q : Requester) : (s.withdraw q).resetPin = s.resetPin := rfl
@[simp] theorem withdraw_pins (s : State) (q : Requester) : (s.withdraw q).pins = s.pins := rfl
@[simp] theorem withdraw_profile (s : State) (q : Requester) : (s.withdraw q).profile = s.profile := rfl
@[simp] theorem withdraw_conflict (s : State) (q : Requester) : (s.withdraw q).conflict = s.conflict := rfl
@[simp] theorem withdraw_units (s : State) (q : Requester) : (s.withdraw q).units = s.units := rfl
@[simp] theorem withdraw_buffers (s : State) (q : Requester) : (s.withdraw q).buffers = s.buffers := rfl
@[simp] theorem withdraw_cache (s : State) (q : Requester) : (s.withdraw q).cache = s.cache := rfl
@[simp] theorem withdraw_wcu (s : State) (q : Requester) : (s.withdraw q).wcu = s.wcu := rfl
@[simp] theorem withdraw_formats (s : State) (q : Requester) : (s.withdraw q).formats = s.formats := rfl
@[simp] theorem withdraw_slots (s : State) (q : Requester) : (s.withdraw q).slots = s.slots := rfl
@[simp] theorem withdraw_eject (s : State) (q : Requester) : (s.withdraw q).eject = s.eject := rfl
@[simp] theorem withdraw_link (s : State) (q : Requester) : (s.withdraw q).link = s.link := rfl
@[simp] theorem withdraw_executing (s : State) (q : Requester) : (s.withdraw q).executing = s.executing := rfl
@[simp] theorem withdraw_unit (s : State) (q : Requester) (u' : DriveId) :
    (s.withdraw q).unit u' = s.unit u' := rfl
@[simp] theorem withdraw_buffer (s : State) (q : Requester) (b' : BufferId) :
    (s.withdraw q).buffer b' = s.buffer b' := rfl
@[simp] theorem withdraw_slot (s : State) (q : Requester) (n' : SlotId) :
    (s.withdraw q).slot n' = s.slot n' := rfl

/-! ### mapBuffer -/

@[simp] theorem mapBuffer_pending (s : State) (b : BufferId) (g : Buffer → Buffer) :
    (s.mapBuffer b g).pending = s.pending := rfl
@[simp] theorem mapBuffer_now (s : State) (b : BufferId) (g : Buffer → Buffer) : (s.mapBuffer b g).now = s.now := rfl
@[simp] theorem mapBuffer_moment (s : State) (b : BufferId) (g : Buffer → Buffer) :
    (s.mapBuffer b g).moment = s.moment := rfl
@[simp] theorem mapBuffer_choices (s : State) (b : BufferId) (g : Buffer → Buffer) :
    (s.mapBuffer b g).choices = s.choices := rfl
@[simp] theorem mapBuffer_resetPin (s : State) (b : BufferId) (g : Buffer → Buffer) :
    (s.mapBuffer b g).resetPin = s.resetPin := rfl
@[simp] theorem mapBuffer_pins (s : State) (b : BufferId) (g : Buffer → Buffer) :
    (s.mapBuffer b g).pins = s.pins := rfl
@[simp] theorem mapBuffer_profile (s : State) (b : BufferId) (g : Buffer → Buffer) :
    (s.mapBuffer b g).profile = s.profile := rfl
@[simp] theorem mapBuffer_conflict (s : State) (b : BufferId) (g : Buffer → Buffer) :
    (s.mapBuffer b g).conflict = s.conflict := rfl
@[simp] theorem mapBuffer_units (s : State) (b : BufferId) (g : Buffer → Buffer) :
    (s.mapBuffer b g).units = s.units := rfl
@[simp] theorem mapBuffer_cache (s : State) (b : BufferId) (g : Buffer → Buffer) :
    (s.mapBuffer b g).cache = s.cache := rfl
@[simp] theorem mapBuffer_wcu (s : State) (b : BufferId) (g : Buffer → Buffer) : (s.mapBuffer b g).wcu = s.wcu := rfl
@[simp] theorem mapBuffer_formats (s : State) (b : BufferId) (g : Buffer → Buffer) :
    (s.mapBuffer b g).formats = s.formats := rfl
@[simp] theorem mapBuffer_slots (s : State) (b : BufferId) (g : Buffer → Buffer) :
    (s.mapBuffer b g).slots = s.slots := rfl
@[simp] theorem mapBuffer_eject (s : State) (b : BufferId) (g : Buffer → Buffer) :
    (s.mapBuffer b g).eject = s.eject := rfl
@[simp] theorem mapBuffer_card (s : State) (b : BufferId) (g : Buffer → Buffer) :
    (s.mapBuffer b g).card = s.card := rfl
@[simp] theorem mapBuffer_link (s : State) (b : BufferId) (g : Buffer → Buffer) :
    (s.mapBuffer b g).link = s.link := rfl
@[simp] theorem mapBuffer_executing (s : State) (b : BufferId) (g : Buffer → Buffer) :
    (s.mapBuffer b g).executing = s.executing := rfl
@[simp] theorem mapBuffer_unit (s : State) (b : BufferId) (g : Buffer → Buffer) (u' : DriveId) :
    (s.mapBuffer b g).unit u' = s.unit u' := rfl
@[simp] theorem mapBuffer_slot (s : State) (b : BufferId) (g : Buffer → Buffer) (n' : SlotId) :
    (s.mapBuffer b g).slot n' = s.slot n' := rfl

/-! ### setCache -/

@[simp] theorem setCache_pending (s : State) (c : Cache) : (s.setCache c).pending = s.pending := rfl
@[simp] theorem setCache_now (s : State) (c : Cache) : (s.setCache c).now = s.now := rfl
@[simp] theorem setCache_moment (s : State) (c : Cache) : (s.setCache c).moment = s.moment := rfl
@[simp] theorem setCache_choices (s : State) (c : Cache) : (s.setCache c).choices = s.choices := rfl
@[simp] theorem setCache_resetPin (s : State) (c : Cache) : (s.setCache c).resetPin = s.resetPin := rfl
@[simp] theorem setCache_pins (s : State) (c : Cache) : (s.setCache c).pins = s.pins := rfl
@[simp] theorem setCache_profile (s : State) (c : Cache) : (s.setCache c).profile = s.profile := rfl
@[simp] theorem setCache_conflict (s : State) (c : Cache) : (s.setCache c).conflict = s.conflict := rfl
@[simp] theorem setCache_units (s : State) (c : Cache) : (s.setCache c).units = s.units := rfl
@[simp] theorem setCache_buffers (s : State) (c : Cache) : (s.setCache c).buffers = s.buffers := rfl
@[simp] theorem setCache_wcu (s : State) (c : Cache) : (s.setCache c).wcu = s.wcu := rfl
@[simp] theorem setCache_formats (s : State) (c : Cache) : (s.setCache c).formats = s.formats := rfl
@[simp] theorem setCache_slots (s : State) (c : Cache) : (s.setCache c).slots = s.slots := rfl
@[simp] theorem setCache_eject (s : State) (c : Cache) : (s.setCache c).eject = s.eject := rfl
@[simp] theorem setCache_card (s : State) (c : Cache) : (s.setCache c).card = s.card := rfl
@[simp] theorem setCache_link (s : State) (c : Cache) : (s.setCache c).link = s.link := rfl
@[simp] theorem setCache_executing (s : State) (c : Cache) : (s.setCache c).executing = s.executing := rfl
@[simp] theorem setCache_unit (s : State) (c : Cache) (u' : DriveId) :
    (s.setCache c).unit u' = s.unit u' := rfl
@[simp] theorem setCache_buffer (s : State) (c : Cache) (b' : BufferId) :
    (s.setCache c).buffer b' = s.buffer b' := rfl
@[simp] theorem setCache_slot (s : State) (c : Cache) (n' : SlotId) :
    (s.setCache c).slot n' = s.slot n' := rfl

/-! ### setPrediction -/

@[simp] theorem setPrediction_pending (s : State) (u : DriveId) (p : Option Prediction) :
    (s.setPrediction u p).pending = s.pending := rfl
@[simp] theorem setPrediction_now (s : State) (u : DriveId) (p : Option Prediction) :
    (s.setPrediction u p).now = s.now := rfl
@[simp] theorem setPrediction_moment (s : State) (u : DriveId) (p : Option Prediction) :
    (s.setPrediction u p).moment = s.moment := rfl
@[simp] theorem setPrediction_choices (s : State) (u : DriveId) (p : Option Prediction) :
    (s.setPrediction u p).choices = s.choices := rfl
@[simp] theorem setPrediction_resetPin (s : State) (u : DriveId) (p : Option Prediction) :
    (s.setPrediction u p).resetPin = s.resetPin := rfl
@[simp] theorem setPrediction_pins (s : State) (u : DriveId) (p : Option Prediction) :
    (s.setPrediction u p).pins = s.pins := rfl
@[simp] theorem setPrediction_profile (s : State) (u : DriveId) (p : Option Prediction) :
    (s.setPrediction u p).profile = s.profile := rfl
@[simp] theorem setPrediction_conflict (s : State) (u : DriveId) (p : Option Prediction) :
    (s.setPrediction u p).conflict = s.conflict := rfl
@[simp] theorem setPrediction_units (s : State) (u : DriveId) (p : Option Prediction) :
    (s.setPrediction u p).units = s.units := rfl
@[simp] theorem setPrediction_buffers (s : State) (u : DriveId) (p : Option Prediction) :
    (s.setPrediction u p).buffers = s.buffers := rfl
@[simp] theorem setPrediction_wcu (s : State) (u : DriveId) (p : Option Prediction) :
    (s.setPrediction u p).wcu = s.wcu := rfl
@[simp] theorem setPrediction_formats (s : State) (u : DriveId) (p : Option Prediction) :
    (s.setPrediction u p).formats = s.formats := rfl
@[simp] theorem setPrediction_slots (s : State) (u : DriveId) (p : Option Prediction) :
    (s.setPrediction u p).slots = s.slots := rfl
@[simp] theorem setPrediction_eject (s : State) (u : DriveId) (p : Option Prediction) :
    (s.setPrediction u p).eject = s.eject := rfl
@[simp] theorem setPrediction_card (s : State) (u : DriveId) (p : Option Prediction) :
    (s.setPrediction u p).card = s.card := rfl
@[simp] theorem setPrediction_link (s : State) (u : DriveId) (p : Option Prediction) :
    (s.setPrediction u p).link = s.link := rfl
@[simp] theorem setPrediction_executing (s : State) (u : DriveId) (p : Option Prediction) :
    (s.setPrediction u p).executing = s.executing := rfl
@[simp] theorem setPrediction_unit (s : State) (u : DriveId) (p : Option Prediction) (u' : DriveId) :
    (s.setPrediction u p).unit u' = s.unit u' := rfl
@[simp] theorem setPrediction_buffer (s : State) (u : DriveId) (p : Option Prediction) (b' : BufferId) :
    (s.setPrediction u p).buffer b' = s.buffer b' := rfl
@[simp] theorem setPrediction_slot (s : State) (u : DriveId) (p : Option Prediction) (n' : SlotId) :
    (s.setPrediction u p).slot n' = s.slot n' := rfl

/-! ### setHeld -/

@[simp] theorem setHeld_pending (s : State) (c : Option Capture) : (s.setHeld c).pending = s.pending := rfl
@[simp] theorem setHeld_now (s : State) (c : Option Capture) : (s.setHeld c).now = s.now := rfl
@[simp] theorem setHeld_moment (s : State) (c : Option Capture) : (s.setHeld c).moment = s.moment := rfl
@[simp] theorem setHeld_choices (s : State) (c : Option Capture) : (s.setHeld c).choices = s.choices := rfl
@[simp] theorem setHeld_resetPin (s : State) (c : Option Capture) : (s.setHeld c).resetPin = s.resetPin := rfl
@[simp] theorem setHeld_pins (s : State) (c : Option Capture) : (s.setHeld c).pins = s.pins := rfl
@[simp] theorem setHeld_profile (s : State) (c : Option Capture) : (s.setHeld c).profile = s.profile := rfl
@[simp] theorem setHeld_conflict (s : State) (c : Option Capture) : (s.setHeld c).conflict = s.conflict := rfl
@[simp] theorem setHeld_units (s : State) (c : Option Capture) : (s.setHeld c).units = s.units := rfl
@[simp] theorem setHeld_buffers (s : State) (c : Option Capture) : (s.setHeld c).buffers = s.buffers := rfl
@[simp] theorem setHeld_cache (s : State) (c : Option Capture) : (s.setHeld c).cache = s.cache := rfl
@[simp] theorem setHeld_formats (s : State) (c : Option Capture) : (s.setHeld c).formats = s.formats := rfl
@[simp] theorem setHeld_slots (s : State) (c : Option Capture) : (s.setHeld c).slots = s.slots := rfl
@[simp] theorem setHeld_eject (s : State) (c : Option Capture) : (s.setHeld c).eject = s.eject := rfl
@[simp] theorem setHeld_card (s : State) (c : Option Capture) : (s.setHeld c).card = s.card := rfl
@[simp] theorem setHeld_link (s : State) (c : Option Capture) : (s.setHeld c).link = s.link := rfl
@[simp] theorem setHeld_executing (s : State) (c : Option Capture) : (s.setHeld c).executing = s.executing := rfl
@[simp] theorem setHeld_unit (s : State) (c : Option Capture) (u' : DriveId) :
    (s.setHeld c).unit u' = s.unit u' := rfl
@[simp] theorem setHeld_buffer (s : State) (c : Option Capture) (b' : BufferId) :
    (s.setHeld c).buffer b' = s.buffer b' := rfl
@[simp] theorem setHeld_slot (s : State) (c : Option Capture) (n' : SlotId) :
    (s.setHeld c).slot n' = s.slot n' := rfl

/-! ### stampBuffer -/

@[simp] theorem stampBuffer_pending (s : State) (b : BufferId) : (s.stampBuffer b).pending = s.pending := rfl
@[simp] theorem stampBuffer_now (s : State) (b : BufferId) : (s.stampBuffer b).now = s.now := rfl
@[simp] theorem stampBuffer_moment (s : State) (b : BufferId) : (s.stampBuffer b).moment = s.moment := rfl
@[simp] theorem stampBuffer_choices (s : State) (b : BufferId) : (s.stampBuffer b).choices = s.choices := rfl
@[simp] theorem stampBuffer_resetPin (s : State) (b : BufferId) : (s.stampBuffer b).resetPin = s.resetPin := rfl
@[simp] theorem stampBuffer_pins (s : State) (b : BufferId) : (s.stampBuffer b).pins = s.pins := rfl
@[simp] theorem stampBuffer_profile (s : State) (b : BufferId) : (s.stampBuffer b).profile = s.profile := rfl
@[simp] theorem stampBuffer_conflict (s : State) (b : BufferId) : (s.stampBuffer b).conflict = s.conflict := rfl
@[simp] theorem stampBuffer_units (s : State) (b : BufferId) : (s.stampBuffer b).units = s.units := rfl
@[simp] theorem stampBuffer_wcu (s : State) (b : BufferId) : (s.stampBuffer b).wcu = s.wcu := rfl
@[simp] theorem stampBuffer_formats (s : State) (b : BufferId) : (s.stampBuffer b).formats = s.formats := rfl
@[simp] theorem stampBuffer_slots (s : State) (b : BufferId) : (s.stampBuffer b).slots = s.slots := rfl
@[simp] theorem stampBuffer_eject (s : State) (b : BufferId) : (s.stampBuffer b).eject = s.eject := rfl
@[simp] theorem stampBuffer_card (s : State) (b : BufferId) : (s.stampBuffer b).card = s.card := rfl
@[simp] theorem stampBuffer_link (s : State) (b : BufferId) : (s.stampBuffer b).link = s.link := rfl
@[simp] theorem stampBuffer_executing (s : State) (b : BufferId) : (s.stampBuffer b).executing = s.executing := rfl
@[simp] theorem stampBuffer_unit (s : State) (b : BufferId) (u' : DriveId) :
    (s.stampBuffer b).unit u' = s.unit u' := rfl
@[simp] theorem stampBuffer_slot (s : State) (b : BufferId) (n' : SlotId) :
    (s.stampBuffer b).slot n' = s.slot n' := rfl

/-! ### freeBuffer -/

@[simp] theorem freeBuffer_pending (s : State) (b : BufferId) : (s.freeBuffer b).pending = s.pending := rfl
@[simp] theorem freeBuffer_now (s : State) (b : BufferId) : (s.freeBuffer b).now = s.now := rfl
@[simp] theorem freeBuffer_moment (s : State) (b : BufferId) : (s.freeBuffer b).moment = s.moment := rfl
@[simp] theorem freeBuffer_choices (s : State) (b : BufferId) : (s.freeBuffer b).choices = s.choices := rfl
@[simp] theorem freeBuffer_resetPin (s : State) (b : BufferId) : (s.freeBuffer b).resetPin = s.resetPin := rfl
@[simp] theorem freeBuffer_pins (s : State) (b : BufferId) : (s.freeBuffer b).pins = s.pins := rfl
@[simp] theorem freeBuffer_profile (s : State) (b : BufferId) : (s.freeBuffer b).profile = s.profile := rfl
@[simp] theorem freeBuffer_conflict (s : State) (b : BufferId) : (s.freeBuffer b).conflict = s.conflict := rfl
@[simp] theorem freeBuffer_units (s : State) (b : BufferId) : (s.freeBuffer b).units = s.units := rfl
@[simp] theorem freeBuffer_cache (s : State) (b : BufferId) : (s.freeBuffer b).cache = s.cache := rfl
@[simp] theorem freeBuffer_wcu (s : State) (b : BufferId) : (s.freeBuffer b).wcu = s.wcu := rfl
@[simp] theorem freeBuffer_formats (s : State) (b : BufferId) : (s.freeBuffer b).formats = s.formats := rfl
@[simp] theorem freeBuffer_slots (s : State) (b : BufferId) : (s.freeBuffer b).slots = s.slots := rfl
@[simp] theorem freeBuffer_eject (s : State) (b : BufferId) : (s.freeBuffer b).eject = s.eject := rfl
@[simp] theorem freeBuffer_card (s : State) (b : BufferId) : (s.freeBuffer b).card = s.card := rfl
@[simp] theorem freeBuffer_link (s : State) (b : BufferId) : (s.freeBuffer b).link = s.link := rfl
@[simp] theorem freeBuffer_executing (s : State) (b : BufferId) : (s.freeBuffer b).executing = s.executing := rfl
@[simp] theorem freeBuffer_unit (s : State) (b : BufferId) (u' : DriveId) :
    (s.freeBuffer b).unit u' = s.unit u' := rfl
@[simp] theorem freeBuffer_slot (s : State) (b : BufferId) (n' : SlotId) :
    (s.freeBuffer b).slot n' = s.slot n' := rfl

/-! ### setMedia -/

@[simp] theorem setMedia_pending (s : State) (u : DriveId) (m : Media) (n : Option SlotId) :
    (s.setMedia u m n).pending = s.pending := rfl
@[simp] theorem setMedia_now (s : State) (u : DriveId) (m : Media) (n : Option SlotId) :
    (s.setMedia u m n).now = s.now := rfl
@[simp] theorem setMedia_moment (s : State) (u : DriveId) (m : Media) (n : Option SlotId) :
    (s.setMedia u m n).moment = s.moment := rfl
@[simp] theorem setMedia_choices (s : State) (u : DriveId) (m : Media) (n : Option SlotId) :
    (s.setMedia u m n).choices = s.choices := rfl
@[simp] theorem setMedia_resetPin (s : State) (u : DriveId) (m : Media) (n : Option SlotId) :
    (s.setMedia u m n).resetPin = s.resetPin := rfl
@[simp] theorem setMedia_pins (s : State) (u : DriveId) (m : Media) (n : Option SlotId) :
    (s.setMedia u m n).pins = s.pins := rfl
@[simp] theorem setMedia_profile (s : State) (u : DriveId) (m : Media) (n : Option SlotId) :
    (s.setMedia u m n).profile = s.profile := rfl
@[simp] theorem setMedia_conflict (s : State) (u : DriveId) (m : Media) (n : Option SlotId) :
    (s.setMedia u m n).conflict = s.conflict := rfl
@[simp] theorem setMedia_buffers (s : State) (u : DriveId) (m : Media) (n : Option SlotId) :
    (s.setMedia u m n).buffers = s.buffers := rfl
@[simp] theorem setMedia_cache (s : State) (u : DriveId) (m : Media) (n : Option SlotId) :
    (s.setMedia u m n).cache = s.cache := rfl
@[simp] theorem setMedia_wcu (s : State) (u : DriveId) (m : Media) (n : Option SlotId) :
    (s.setMedia u m n).wcu = s.wcu := rfl
@[simp] theorem setMedia_formats (s : State) (u : DriveId) (m : Media) (n : Option SlotId) :
    (s.setMedia u m n).formats = s.formats := rfl
@[simp] theorem setMedia_slots (s : State) (u : DriveId) (m : Media) (n : Option SlotId) :
    (s.setMedia u m n).slots = s.slots := rfl
@[simp] theorem setMedia_eject (s : State) (u : DriveId) (m : Media) (n : Option SlotId) :
    (s.setMedia u m n).eject = s.eject := rfl
@[simp] theorem setMedia_card (s : State) (u : DriveId) (m : Media) (n : Option SlotId) :
    (s.setMedia u m n).card = s.card := rfl
@[simp] theorem setMedia_link (s : State) (u : DriveId) (m : Media) (n : Option SlotId) :
    (s.setMedia u m n).link = s.link := rfl
@[simp] theorem setMedia_executing (s : State) (u : DriveId) (m : Media) (n : Option SlotId) :
    (s.setMedia u m n).executing = s.executing := rfl
@[simp] theorem setMedia_buffer (s : State) (u : DriveId) (m : Media) (n : Option SlotId) (b' : BufferId) :
    (s.setMedia u m n).buffer b' = s.buffer b' := rfl
@[simp] theorem setMedia_slot (s : State) (u : DriveId) (m : Media) (n : Option SlotId) (n' : SlotId) :
    (s.setMedia u m n).slot n' = s.slot n' := rfl

/-! ### setLatch -/

@[simp] theorem setLatch_pending (s : State) (u : DriveId) : (s.setLatch u).pending = s.pending := rfl
@[simp] theorem setLatch_now (s : State) (u : DriveId) : (s.setLatch u).now = s.now := rfl
@[simp] theorem setLatch_moment (s : State) (u : DriveId) : (s.setLatch u).moment = s.moment := rfl
@[simp] theorem setLatch_choices (s : State) (u : DriveId) : (s.setLatch u).choices = s.choices := rfl
@[simp] theorem setLatch_resetPin (s : State) (u : DriveId) : (s.setLatch u).resetPin = s.resetPin := rfl
@[simp] theorem setLatch_pins (s : State) (u : DriveId) : (s.setLatch u).pins = s.pins := rfl
@[simp] theorem setLatch_profile (s : State) (u : DriveId) : (s.setLatch u).profile = s.profile := rfl
@[simp] theorem setLatch_conflict (s : State) (u : DriveId) : (s.setLatch u).conflict = s.conflict := rfl
@[simp] theorem setLatch_buffers (s : State) (u : DriveId) : (s.setLatch u).buffers = s.buffers := rfl
@[simp] theorem setLatch_cache (s : State) (u : DriveId) : (s.setLatch u).cache = s.cache := rfl
@[simp] theorem setLatch_wcu (s : State) (u : DriveId) : (s.setLatch u).wcu = s.wcu := rfl
@[simp] theorem setLatch_formats (s : State) (u : DriveId) : (s.setLatch u).formats = s.formats := rfl
@[simp] theorem setLatch_slots (s : State) (u : DriveId) : (s.setLatch u).slots = s.slots := rfl
@[simp] theorem setLatch_eject (s : State) (u : DriveId) : (s.setLatch u).eject = s.eject := rfl
@[simp] theorem setLatch_card (s : State) (u : DriveId) : (s.setLatch u).card = s.card := rfl
@[simp] theorem setLatch_link (s : State) (u : DriveId) : (s.setLatch u).link = s.link := rfl
@[simp] theorem setLatch_executing (s : State) (u : DriveId) : (s.setLatch u).executing = s.executing := rfl
@[simp] theorem setLatch_buffer (s : State) (u : DriveId) (b' : BufferId) :
    (s.setLatch u).buffer b' = s.buffer b' := rfl
@[simp] theorem setLatch_slot (s : State) (u : DriveId) (n' : SlotId) :
    (s.setLatch u).slot n' = s.slot n' := rfl

/-! ### setEject -/

@[simp] theorem setEject_pending (s : State) (r : Option EjectRecord) : (s.setEject r).pending = s.pending := rfl
@[simp] theorem setEject_now (s : State) (r : Option EjectRecord) : (s.setEject r).now = s.now := rfl
@[simp] theorem setEject_moment (s : State) (r : Option EjectRecord) : (s.setEject r).moment = s.moment := rfl
@[simp] theorem setEject_choices (s : State) (r : Option EjectRecord) : (s.setEject r).choices = s.choices := rfl
@[simp] theorem setEject_resetPin (s : State) (r : Option EjectRecord) : (s.setEject r).resetPin = s.resetPin := rfl
@[simp] theorem setEject_pins (s : State) (r : Option EjectRecord) : (s.setEject r).pins = s.pins := rfl
@[simp] theorem setEject_profile (s : State) (r : Option EjectRecord) : (s.setEject r).profile = s.profile := rfl
@[simp] theorem setEject_conflict (s : State) (r : Option EjectRecord) : (s.setEject r).conflict = s.conflict := rfl
@[simp] theorem setEject_units (s : State) (r : Option EjectRecord) : (s.setEject r).units = s.units := rfl
@[simp] theorem setEject_buffers (s : State) (r : Option EjectRecord) : (s.setEject r).buffers = s.buffers := rfl
@[simp] theorem setEject_cache (s : State) (r : Option EjectRecord) : (s.setEject r).cache = s.cache := rfl
@[simp] theorem setEject_wcu (s : State) (r : Option EjectRecord) : (s.setEject r).wcu = s.wcu := rfl
@[simp] theorem setEject_formats (s : State) (r : Option EjectRecord) : (s.setEject r).formats = s.formats := rfl
@[simp] theorem setEject_slots (s : State) (r : Option EjectRecord) : (s.setEject r).slots = s.slots := rfl
@[simp] theorem setEject_card (s : State) (r : Option EjectRecord) : (s.setEject r).card = s.card := rfl
@[simp] theorem setEject_link (s : State) (r : Option EjectRecord) : (s.setEject r).link = s.link := rfl
@[simp] theorem setEject_executing (s : State) (r : Option EjectRecord) :
    (s.setEject r).executing = s.executing := rfl
@[simp] theorem setEject_unit (s : State) (r : Option EjectRecord) (u' : DriveId) :
    (s.setEject r).unit u' = s.unit u' := rfl
@[simp] theorem setEject_buffer (s : State) (r : Option EjectRecord) (b' : BufferId) :
    (s.setEject r).buffer b' = s.buffer b' := rfl
@[simp] theorem setEject_slot (s : State) (r : Option EjectRecord) (n' : SlotId) :
    (s.setEject r).slot n' = s.slot n' := rfl

/-! ### mapWcu -/

@[simp] theorem mapWcu_pending (s : State) (g : Wcu → Wcu) : (s.mapWcu g).pending = s.pending := rfl
@[simp] theorem mapWcu_now (s : State) (g : Wcu → Wcu) : (s.mapWcu g).now = s.now := rfl
@[simp] theorem mapWcu_moment (s : State) (g : Wcu → Wcu) : (s.mapWcu g).moment = s.moment := rfl
@[simp] theorem mapWcu_choices (s : State) (g : Wcu → Wcu) : (s.mapWcu g).choices = s.choices := rfl
@[simp] theorem mapWcu_resetPin (s : State) (g : Wcu → Wcu) : (s.mapWcu g).resetPin = s.resetPin := rfl
@[simp] theorem mapWcu_pins (s : State) (g : Wcu → Wcu) : (s.mapWcu g).pins = s.pins := rfl
@[simp] theorem mapWcu_profile (s : State) (g : Wcu → Wcu) : (s.mapWcu g).profile = s.profile := rfl
@[simp] theorem mapWcu_conflict (s : State) (g : Wcu → Wcu) : (s.mapWcu g).conflict = s.conflict := rfl
@[simp] theorem mapWcu_units (s : State) (g : Wcu → Wcu) : (s.mapWcu g).units = s.units := rfl
@[simp] theorem mapWcu_buffers (s : State) (g : Wcu → Wcu) : (s.mapWcu g).buffers = s.buffers := rfl
@[simp] theorem mapWcu_cache (s : State) (g : Wcu → Wcu) : (s.mapWcu g).cache = s.cache := rfl
@[simp] theorem mapWcu_formats (s : State) (g : Wcu → Wcu) : (s.mapWcu g).formats = s.formats := rfl
@[simp] theorem mapWcu_slots (s : State) (g : Wcu → Wcu) : (s.mapWcu g).slots = s.slots := rfl
@[simp] theorem mapWcu_eject (s : State) (g : Wcu → Wcu) : (s.mapWcu g).eject = s.eject := rfl
@[simp] theorem mapWcu_card (s : State) (g : Wcu → Wcu) : (s.mapWcu g).card = s.card := rfl
@[simp] theorem mapWcu_link (s : State) (g : Wcu → Wcu) : (s.mapWcu g).link = s.link := rfl
@[simp] theorem mapWcu_executing (s : State) (g : Wcu → Wcu) : (s.mapWcu g).executing = s.executing := rfl
@[simp] theorem mapWcu_unit (s : State) (g : Wcu → Wcu) (u' : DriveId) :
    (s.mapWcu g).unit u' = s.unit u' := rfl
@[simp] theorem mapWcu_buffer (s : State) (g : Wcu → Wcu) (b' : BufferId) :
    (s.mapWcu g).buffer b' = s.buffer b' := rfl
@[simp] theorem mapWcu_slot (s : State) (g : Wcu → Wcu) (n' : SlotId) :
    (s.mapWcu g).slot n' = s.slot n' := rfl

/-! ### mapCard -/

@[simp] theorem mapCard_pending (s : State) (g : CardPort → CardPort) : (s.mapCard g).pending = s.pending := rfl
@[simp] theorem mapCard_now (s : State) (g : CardPort → CardPort) : (s.mapCard g).now = s.now := rfl
@[simp] theorem mapCard_moment (s : State) (g : CardPort → CardPort) : (s.mapCard g).moment = s.moment := rfl
@[simp] theorem mapCard_choices (s : State) (g : CardPort → CardPort) : (s.mapCard g).choices = s.choices := rfl
@[simp] theorem mapCard_resetPin (s : State) (g : CardPort → CardPort) : (s.mapCard g).resetPin = s.resetPin := rfl
@[simp] theorem mapCard_pins (s : State) (g : CardPort → CardPort) : (s.mapCard g).pins = s.pins := rfl
@[simp] theorem mapCard_profile (s : State) (g : CardPort → CardPort) : (s.mapCard g).profile = s.profile := rfl
@[simp] theorem mapCard_conflict (s : State) (g : CardPort → CardPort) : (s.mapCard g).conflict = s.conflict := rfl
@[simp] theorem mapCard_units (s : State) (g : CardPort → CardPort) : (s.mapCard g).units = s.units := rfl
@[simp] theorem mapCard_buffers (s : State) (g : CardPort → CardPort) : (s.mapCard g).buffers = s.buffers := rfl
@[simp] theorem mapCard_cache (s : State) (g : CardPort → CardPort) : (s.mapCard g).cache = s.cache := rfl
@[simp] theorem mapCard_wcu (s : State) (g : CardPort → CardPort) : (s.mapCard g).wcu = s.wcu := rfl
@[simp] theorem mapCard_formats (s : State) (g : CardPort → CardPort) : (s.mapCard g).formats = s.formats := rfl
@[simp] theorem mapCard_slots (s : State) (g : CardPort → CardPort) : (s.mapCard g).slots = s.slots := rfl
@[simp] theorem mapCard_eject (s : State) (g : CardPort → CardPort) : (s.mapCard g).eject = s.eject := rfl
@[simp] theorem mapCard_link (s : State) (g : CardPort → CardPort) : (s.mapCard g).link = s.link := rfl
@[simp] theorem mapCard_executing (s : State) (g : CardPort → CardPort) : (s.mapCard g).executing = s.executing := rfl
@[simp] theorem mapCard_unit (s : State) (g : CardPort → CardPort) (u' : DriveId) :
    (s.mapCard g).unit u' = s.unit u' := rfl
@[simp] theorem mapCard_buffer (s : State) (g : CardPort → CardPort) (b' : BufferId) :
    (s.mapCard g).buffer b' = s.buffer b' := rfl
@[simp] theorem mapCard_slot (s : State) (g : CardPort → CardPort) (n' : SlotId) :
    (s.mapCard g).slot n' = s.slot n' := rfl

/-! ### mapLink -/

@[simp] theorem mapLink_pending (s : State) (g : Link → Link) : (s.mapLink g).pending = s.pending := rfl
@[simp] theorem mapLink_now (s : State) (g : Link → Link) : (s.mapLink g).now = s.now := rfl
@[simp] theorem mapLink_moment (s : State) (g : Link → Link) : (s.mapLink g).moment = s.moment := rfl
@[simp] theorem mapLink_choices (s : State) (g : Link → Link) : (s.mapLink g).choices = s.choices := rfl
@[simp] theorem mapLink_resetPin (s : State) (g : Link → Link) : (s.mapLink g).resetPin = s.resetPin := rfl
@[simp] theorem mapLink_pins (s : State) (g : Link → Link) : (s.mapLink g).pins = s.pins := rfl
@[simp] theorem mapLink_profile (s : State) (g : Link → Link) : (s.mapLink g).profile = s.profile := rfl
@[simp] theorem mapLink_conflict (s : State) (g : Link → Link) : (s.mapLink g).conflict = s.conflict := rfl
@[simp] theorem mapLink_units (s : State) (g : Link → Link) : (s.mapLink g).units = s.units := rfl
@[simp] theorem mapLink_buffers (s : State) (g : Link → Link) : (s.mapLink g).buffers = s.buffers := rfl
@[simp] theorem mapLink_cache (s : State) (g : Link → Link) : (s.mapLink g).cache = s.cache := rfl
@[simp] theorem mapLink_wcu (s : State) (g : Link → Link) : (s.mapLink g).wcu = s.wcu := rfl
@[simp] theorem mapLink_formats (s : State) (g : Link → Link) : (s.mapLink g).formats = s.formats := rfl
@[simp] theorem mapLink_slots (s : State) (g : Link → Link) : (s.mapLink g).slots = s.slots := rfl
@[simp] theorem mapLink_eject (s : State) (g : Link → Link) : (s.mapLink g).eject = s.eject := rfl
@[simp] theorem mapLink_card (s : State) (g : Link → Link) : (s.mapLink g).card = s.card := rfl
@[simp] theorem mapLink_executing (s : State) (g : Link → Link) : (s.mapLink g).executing = s.executing := rfl
@[simp] theorem mapLink_unit (s : State) (g : Link → Link) (u' : DriveId) :
    (s.mapLink g).unit u' = s.unit u' := rfl
@[simp] theorem mapLink_buffer (s : State) (g : Link → Link) (b' : BufferId) :
    (s.mapLink g).buffer b' = s.buffer b' := rfl
@[simp] theorem mapLink_slot (s : State) (g : Link → Link) (n' : SlotId) :
    (s.mapLink g).slot n' = s.slot n' := rfl

/-! ### oweFillPass -/

@[simp] theorem oweFillPass_pending (s : State) : s.oweFillPass.pending = s.pending := rfl
@[simp] theorem oweFillPass_now (s : State) : s.oweFillPass.now = s.now := rfl
@[simp] theorem oweFillPass_moment (s : State) : s.oweFillPass.moment = s.moment := rfl
@[simp] theorem oweFillPass_choices (s : State) : s.oweFillPass.choices = s.choices := rfl
@[simp] theorem oweFillPass_resetPin (s : State) : s.oweFillPass.resetPin = s.resetPin := rfl
@[simp] theorem oweFillPass_pins (s : State) : s.oweFillPass.pins = s.pins := rfl
@[simp] theorem oweFillPass_profile (s : State) : s.oweFillPass.profile = s.profile := rfl
@[simp] theorem oweFillPass_conflict (s : State) : s.oweFillPass.conflict = s.conflict := rfl
@[simp] theorem oweFillPass_units (s : State) : s.oweFillPass.units = s.units := rfl
@[simp] theorem oweFillPass_buffers (s : State) : s.oweFillPass.buffers = s.buffers := rfl
@[simp] theorem oweFillPass_wcu (s : State) : s.oweFillPass.wcu = s.wcu := rfl
@[simp] theorem oweFillPass_formats (s : State) : s.oweFillPass.formats = s.formats := rfl
@[simp] theorem oweFillPass_slots (s : State) : s.oweFillPass.slots = s.slots := rfl
@[simp] theorem oweFillPass_eject (s : State) : s.oweFillPass.eject = s.eject := rfl
@[simp] theorem oweFillPass_card (s : State) : s.oweFillPass.card = s.card := rfl
@[simp] theorem oweFillPass_link (s : State) : s.oweFillPass.link = s.link := rfl
@[simp] theorem oweFillPass_executing (s : State) : s.oweFillPass.executing = s.executing := rfl
@[simp] theorem oweFillPass_unit (s : State) (u' : DriveId) :
    s.oweFillPass.unit u' = s.unit u' := rfl
@[simp] theorem oweFillPass_buffer (s : State) (b' : BufferId) :
    s.oweFillPass.buffer b' = s.buffer b' := rfl
@[simp] theorem oweFillPass_slot (s : State) (n' : SlotId) :
    s.oweFillPass.slot n' = s.slot n' := rfl

/-! ### swapRecency -/

@[simp] theorem swapRecency_pending (s : State) (a b : BufferId) : (s.swapRecency a b).pending = s.pending := rfl
@[simp] theorem swapRecency_now (s : State) (a b : BufferId) : (s.swapRecency a b).now = s.now := rfl
@[simp] theorem swapRecency_moment (s : State) (a b : BufferId) : (s.swapRecency a b).moment = s.moment := rfl
@[simp] theorem swapRecency_choices (s : State) (a b : BufferId) : (s.swapRecency a b).choices = s.choices := rfl
@[simp] theorem swapRecency_resetPin (s : State) (a b : BufferId) : (s.swapRecency a b).resetPin = s.resetPin := rfl
@[simp] theorem swapRecency_pins (s : State) (a b : BufferId) : (s.swapRecency a b).pins = s.pins := rfl
@[simp] theorem swapRecency_profile (s : State) (a b : BufferId) : (s.swapRecency a b).profile = s.profile := rfl
@[simp] theorem swapRecency_conflict (s : State) (a b : BufferId) : (s.swapRecency a b).conflict = s.conflict := rfl
@[simp] theorem swapRecency_units (s : State) (a b : BufferId) : (s.swapRecency a b).units = s.units := rfl
@[simp] theorem swapRecency_cache (s : State) (a b : BufferId) : (s.swapRecency a b).cache = s.cache := rfl
@[simp] theorem swapRecency_wcu (s : State) (a b : BufferId) : (s.swapRecency a b).wcu = s.wcu := rfl
@[simp] theorem swapRecency_formats (s : State) (a b : BufferId) : (s.swapRecency a b).formats = s.formats := rfl
@[simp] theorem swapRecency_slots (s : State) (a b : BufferId) : (s.swapRecency a b).slots = s.slots := rfl
@[simp] theorem swapRecency_eject (s : State) (a b : BufferId) : (s.swapRecency a b).eject = s.eject := rfl
@[simp] theorem swapRecency_card (s : State) (a b : BufferId) : (s.swapRecency a b).card = s.card := rfl
@[simp] theorem swapRecency_link (s : State) (a b : BufferId) : (s.swapRecency a b).link = s.link := rfl
@[simp] theorem swapRecency_executing (s : State) (a b : BufferId) :
    (s.swapRecency a b).executing = s.executing := rfl
@[simp] theorem swapRecency_unit (s : State) (a b : BufferId) (u' : DriveId) :
    (s.swapRecency a b).unit u' = s.unit u' := rfl
@[simp] theorem swapRecency_slot (s : State) (a b : BufferId) (n' : SlotId) :
    (s.swapRecency a b).slot n' = s.slot n' := rfl

/-! ### shift -/

@[simp] theorem shift_pending (s : State) (b : Byte) : (s.shift b).pending = s.pending := rfl
@[simp] theorem shift_now (s : State) (b : Byte) : (s.shift b).now = s.now := rfl
@[simp] theorem shift_moment (s : State) (b : Byte) : (s.shift b).moment = s.moment := rfl
@[simp] theorem shift_choices (s : State) (b : Byte) : (s.shift b).choices = s.choices := rfl
@[simp] theorem shift_resetPin (s : State) (b : Byte) : (s.shift b).resetPin = s.resetPin := rfl
@[simp] theorem shift_pins (s : State) (b : Byte) : (s.shift b).pins = s.pins := rfl
@[simp] theorem shift_profile (s : State) (b : Byte) : (s.shift b).profile = s.profile := rfl
@[simp] theorem shift_conflict (s : State) (b : Byte) : (s.shift b).conflict = s.conflict := rfl
@[simp] theorem shift_units (s : State) (b : Byte) : (s.shift b).units = s.units := rfl
@[simp] theorem shift_buffers (s : State) (b : Byte) : (s.shift b).buffers = s.buffers := rfl
@[simp] theorem shift_cache (s : State) (b : Byte) : (s.shift b).cache = s.cache := rfl
@[simp] theorem shift_wcu (s : State) (b : Byte) : (s.shift b).wcu = s.wcu := rfl
@[simp] theorem shift_formats (s : State) (b : Byte) : (s.shift b).formats = s.formats := rfl
@[simp] theorem shift_slots (s : State) (b : Byte) : (s.shift b).slots = s.slots := rfl
@[simp] theorem shift_eject (s : State) (b : Byte) : (s.shift b).eject = s.eject := rfl
@[simp] theorem shift_card (s : State) (b : Byte) : (s.shift b).card = s.card := rfl
@[simp] theorem shift_executing (s : State) (b : Byte) : (s.shift b).executing = s.executing := rfl
@[simp] theorem shift_unit (s : State) (b : Byte) (u' : DriveId) :
    (s.shift b).unit u' = s.unit u' := rfl
@[simp] theorem shift_buffer (s : State) (b : Byte) (b' : BufferId) :
    (s.shift b).buffer b' = s.buffer b' := rfl
@[simp] theorem shift_slot (s : State) (b : Byte) (n' : SlotId) :
    (s.shift b).slot n' = s.slot n' := rfl

/-! ### setFrame -/

@[simp] theorem setFrame_pending (s : State) (f : Frame) : (s.setFrame f).pending = s.pending := rfl
@[simp] theorem setFrame_now (s : State) (f : Frame) : (s.setFrame f).now = s.now := rfl
@[simp] theorem setFrame_moment (s : State) (f : Frame) : (s.setFrame f).moment = s.moment := rfl
@[simp] theorem setFrame_choices (s : State) (f : Frame) : (s.setFrame f).choices = s.choices := rfl
@[simp] theorem setFrame_resetPin (s : State) (f : Frame) : (s.setFrame f).resetPin = s.resetPin := rfl
@[simp] theorem setFrame_pins (s : State) (f : Frame) : (s.setFrame f).pins = s.pins := rfl
@[simp] theorem setFrame_profile (s : State) (f : Frame) : (s.setFrame f).profile = s.profile := rfl
@[simp] theorem setFrame_conflict (s : State) (f : Frame) : (s.setFrame f).conflict = s.conflict := rfl
@[simp] theorem setFrame_units (s : State) (f : Frame) : (s.setFrame f).units = s.units := rfl
@[simp] theorem setFrame_buffers (s : State) (f : Frame) : (s.setFrame f).buffers = s.buffers := rfl
@[simp] theorem setFrame_cache (s : State) (f : Frame) : (s.setFrame f).cache = s.cache := rfl
@[simp] theorem setFrame_wcu (s : State) (f : Frame) : (s.setFrame f).wcu = s.wcu := rfl
@[simp] theorem setFrame_formats (s : State) (f : Frame) : (s.setFrame f).formats = s.formats := rfl
@[simp] theorem setFrame_slots (s : State) (f : Frame) : (s.setFrame f).slots = s.slots := rfl
@[simp] theorem setFrame_eject (s : State) (f : Frame) : (s.setFrame f).eject = s.eject := rfl
@[simp] theorem setFrame_card (s : State) (f : Frame) : (s.setFrame f).card = s.card := rfl
@[simp] theorem setFrame_executing (s : State) (f : Frame) : (s.setFrame f).executing = s.executing := rfl
@[simp] theorem setFrame_unit (s : State) (f : Frame) (u' : DriveId) :
    (s.setFrame f).unit u' = s.unit u' := rfl
@[simp] theorem setFrame_buffer (s : State) (f : Frame) (b' : BufferId) :
    (s.setFrame f).buffer b' = s.buffer b' := rfl
@[simp] theorem setFrame_slot (s : State) (f : Frame) (n' : SlotId) :
    (s.setFrame f).slot n' = s.slot n' := rfl

/-! ### frameFault -/

@[simp] theorem frameFault_pending (s : State) : s.frameFault.pending = s.pending := rfl
@[simp] theorem frameFault_now (s : State) : s.frameFault.now = s.now := rfl
@[simp] theorem frameFault_moment (s : State) : s.frameFault.moment = s.moment := rfl
@[simp] theorem frameFault_choices (s : State) : s.frameFault.choices = s.choices := rfl
@[simp] theorem frameFault_resetPin (s : State) : s.frameFault.resetPin = s.resetPin := rfl
@[simp] theorem frameFault_pins (s : State) : s.frameFault.pins = s.pins := rfl
@[simp] theorem frameFault_profile (s : State) : s.frameFault.profile = s.profile := rfl
@[simp] theorem frameFault_conflict (s : State) : s.frameFault.conflict = s.conflict := rfl
@[simp] theorem frameFault_units (s : State) : s.frameFault.units = s.units := rfl
@[simp] theorem frameFault_buffers (s : State) : s.frameFault.buffers = s.buffers := rfl
@[simp] theorem frameFault_cache (s : State) : s.frameFault.cache = s.cache := rfl
@[simp] theorem frameFault_wcu (s : State) : s.frameFault.wcu = s.wcu := rfl
@[simp] theorem frameFault_formats (s : State) : s.frameFault.formats = s.formats := rfl
@[simp] theorem frameFault_slots (s : State) : s.frameFault.slots = s.slots := rfl
@[simp] theorem frameFault_eject (s : State) : s.frameFault.eject = s.eject := rfl
@[simp] theorem frameFault_card (s : State) : s.frameFault.card = s.card := rfl
@[simp] theorem frameFault_executing (s : State) : s.frameFault.executing = s.executing := rfl
@[simp] theorem frameFault_unit (s : State) (u' : DriveId) :
    s.frameFault.unit u' = s.unit u' := rfl
@[simp] theorem frameFault_buffer (s : State) (b' : BufferId) :
    s.frameFault.buffer b' = s.buffer b' := rfl
@[simp] theorem frameFault_slot (s : State) (n' : SlotId) :
    s.frameFault.slot n' = s.slot n' := rfl

/-! ### report -/

@[simp] theorem report_pending (s : State) (r : Report) :
    (s.report r).pending = s.pending := by unfold State.report; split <;> rfl
@[simp] theorem report_now (s : State) (r : Report) :
    (s.report r).now = s.now := by unfold State.report; split <;> rfl
@[simp] theorem report_moment (s : State) (r : Report) :
    (s.report r).moment = s.moment := by unfold State.report; split <;> rfl
@[simp] theorem report_choices (s : State) (r : Report) :
    (s.report r).choices = s.choices := by unfold State.report; split <;> rfl
@[simp] theorem report_resetPin (s : State) (r : Report) :
    (s.report r).resetPin = s.resetPin := by unfold State.report; split <;> rfl
@[simp] theorem report_pins (s : State) (r : Report) :
    (s.report r).pins = s.pins := by unfold State.report; split <;> rfl
@[simp] theorem report_profile (s : State) (r : Report) :
    (s.report r).profile = s.profile := by unfold State.report; split <;> rfl
@[simp] theorem report_conflict (s : State) (r : Report) :
    (s.report r).conflict = s.conflict := by unfold State.report; split <;> rfl
@[simp] theorem report_units (s : State) (r : Report) :
    (s.report r).units = s.units := by unfold State.report; split <;> rfl
@[simp] theorem report_buffers (s : State) (r : Report) :
    (s.report r).buffers = s.buffers := by unfold State.report; split <;> rfl
@[simp] theorem report_cache (s : State) (r : Report) :
    (s.report r).cache = s.cache := by unfold State.report; split <;> rfl
@[simp] theorem report_wcu (s : State) (r : Report) :
    (s.report r).wcu = s.wcu := by unfold State.report; split <;> rfl
@[simp] theorem report_formats (s : State) (r : Report) :
    (s.report r).formats = s.formats := by unfold State.report; split <;> rfl
@[simp] theorem report_slots (s : State) (r : Report) :
    (s.report r).slots = s.slots := by unfold State.report; split <;> rfl
@[simp] theorem report_eject (s : State) (r : Report) :
    (s.report r).eject = s.eject := by unfold State.report; split <;> rfl
@[simp] theorem report_card (s : State) (r : Report) :
    (s.report r).card = s.card := by unfold State.report; split <;> rfl
@[simp] theorem report_executing (s : State) (r : Report) :
    (s.report r).executing = s.executing := by unfold State.report; split <;> rfl
@[simp] theorem report_unit (s : State) (r : Report) (u' : DriveId) :
    (s.report r).unit u' = s.unit u' := by simp [State.unit]
@[simp] theorem report_buffer (s : State) (r : Report) (b' : BufferId) :
    (s.report r).buffer b' = s.buffer b' := by simp [State.buffer]
@[simp] theorem report_slot (s : State) (r : Report) (n' : SlotId) :
    (s.report r).slot n' = s.slot n' := by simp [State.slot]

/-! ### endCommand -/

@[simp] theorem endCommand_pending (s : State) (r : ResultCode) (p : List Byte) :
    (s.endCommand r p).pending = s.pending := by unfold State.endCommand; split <;> rfl
@[simp] theorem endCommand_now (s : State) (r : ResultCode) (p : List Byte) :
    (s.endCommand r p).now = s.now := by unfold State.endCommand; split <;> rfl
@[simp] theorem endCommand_moment (s : State) (r : ResultCode) (p : List Byte) :
    (s.endCommand r p).moment = s.moment := by unfold State.endCommand; split <;> rfl
@[simp] theorem endCommand_choices (s : State) (r : ResultCode) (p : List Byte) :
    (s.endCommand r p).choices = s.choices := by unfold State.endCommand; split <;> rfl
@[simp] theorem endCommand_resetPin (s : State) (r : ResultCode) (p : List Byte) :
    (s.endCommand r p).resetPin = s.resetPin := by unfold State.endCommand; split <;> rfl
@[simp] theorem endCommand_pins (s : State) (r : ResultCode) (p : List Byte) :
    (s.endCommand r p).pins = s.pins := by unfold State.endCommand; split <;> rfl
@[simp] theorem endCommand_profile (s : State) (r : ResultCode) (p : List Byte) :
    (s.endCommand r p).profile = s.profile := by unfold State.endCommand; split <;> rfl
@[simp] theorem endCommand_conflict (s : State) (r : ResultCode) (p : List Byte) :
    (s.endCommand r p).conflict = s.conflict := by unfold State.endCommand; split <;> rfl
@[simp] theorem endCommand_units (s : State) (r : ResultCode) (p : List Byte) :
    (s.endCommand r p).units = s.units := by unfold State.endCommand; split <;> rfl
@[simp] theorem endCommand_buffers (s : State) (r : ResultCode) (p : List Byte) :
    (s.endCommand r p).buffers = s.buffers := by unfold State.endCommand; split <;> rfl
@[simp] theorem endCommand_cache (s : State) (r : ResultCode) (p : List Byte) :
    (s.endCommand r p).cache = s.cache := by unfold State.endCommand; split <;> rfl
@[simp] theorem endCommand_wcu (s : State) (r : ResultCode) (p : List Byte) :
    (s.endCommand r p).wcu = s.wcu := by unfold State.endCommand; split <;> rfl
@[simp] theorem endCommand_formats (s : State) (r : ResultCode) (p : List Byte) :
    (s.endCommand r p).formats = s.formats := by unfold State.endCommand; split <;> rfl
@[simp] theorem endCommand_slots (s : State) (r : ResultCode) (p : List Byte) :
    (s.endCommand r p).slots = s.slots := by unfold State.endCommand; split <;> rfl
@[simp] theorem endCommand_eject (s : State) (r : ResultCode) (p : List Byte) :
    (s.endCommand r p).eject = s.eject := by unfold State.endCommand; split <;> rfl
@[simp] theorem endCommand_card (s : State) (r : ResultCode) (p : List Byte) :
    (s.endCommand r p).card = s.card := by unfold State.endCommand; split <;> rfl
@[simp] theorem endCommand_unit (s : State) (r : ResultCode) (p : List Byte) (u' : DriveId) :
    (s.endCommand r p).unit u' = s.unit u' := by simp [State.unit]
@[simp] theorem endCommand_buffer (s : State) (r : ResultCode) (p : List Byte) (b' : BufferId) :
    (s.endCommand r p).buffer b' = s.buffer b' := by simp [State.buffer]
@[simp] theorem endCommand_slot (s : State) (r : ResultCode) (p : List Byte) (n' : SlotId) :
    (s.endCommand r p).slot n' = s.slot n' := by simp [State.slot]

/-! ### repost -/

@[simp] theorem repost_pending (s : State) (q : Requester) (cls : Nat) :
    (s.repost q cls).pending = s.pending := by unfold State.repost; split <;> rfl
@[simp] theorem repost_now (s : State) (q : Requester) (cls : Nat) :
    (s.repost q cls).now = s.now := by unfold State.repost; split <;> rfl
@[simp] theorem repost_moment (s : State) (q : Requester) (cls : Nat) :
    (s.repost q cls).moment = s.moment := by unfold State.repost; split <;> rfl
@[simp] theorem repost_choices (s : State) (q : Requester) (cls : Nat) :
    (s.repost q cls).choices = s.choices := by unfold State.repost; split <;> rfl
@[simp] theorem repost_resetPin (s : State) (q : Requester) (cls : Nat) :
    (s.repost q cls).resetPin = s.resetPin := by unfold State.repost; split <;> rfl
@[simp] theorem repost_pins (s : State) (q : Requester) (cls : Nat) :
    (s.repost q cls).pins = s.pins := by unfold State.repost; split <;> rfl
@[simp] theorem repost_profile (s : State) (q : Requester) (cls : Nat) :
    (s.repost q cls).profile = s.profile := by unfold State.repost; split <;> rfl
@[simp] theorem repost_conflict (s : State) (q : Requester) (cls : Nat) :
    (s.repost q cls).conflict = s.conflict := by unfold State.repost; split <;> rfl
@[simp] theorem repost_units (s : State) (q : Requester) (cls : Nat) :
    (s.repost q cls).units = s.units := by unfold State.repost; split <;> rfl
@[simp] theorem repost_buffers (s : State) (q : Requester) (cls : Nat) :
    (s.repost q cls).buffers = s.buffers := by unfold State.repost; split <;> rfl
@[simp] theorem repost_cache (s : State) (q : Requester) (cls : Nat) :
    (s.repost q cls).cache = s.cache := by unfold State.repost; split <;> rfl
@[simp] theorem repost_wcu (s : State) (q : Requester) (cls : Nat) :
    (s.repost q cls).wcu = s.wcu := by unfold State.repost; split <;> rfl
@[simp] theorem repost_formats (s : State) (q : Requester) (cls : Nat) :
    (s.repost q cls).formats = s.formats := by unfold State.repost; split <;> rfl
@[simp] theorem repost_slots (s : State) (q : Requester) (cls : Nat) :
    (s.repost q cls).slots = s.slots := by unfold State.repost; split <;> rfl
@[simp] theorem repost_eject (s : State) (q : Requester) (cls : Nat) :
    (s.repost q cls).eject = s.eject := by unfold State.repost; split <;> rfl
@[simp] theorem repost_link (s : State) (q : Requester) (cls : Nat) :
    (s.repost q cls).link = s.link := by unfold State.repost; split <;> rfl
@[simp] theorem repost_executing (s : State) (q : Requester) (cls : Nat) :
    (s.repost q cls).executing = s.executing := by unfold State.repost; split <;> rfl
@[simp] theorem repost_unit (s : State) (q : Requester) (cls : Nat) (u' : DriveId) :
    (s.repost q cls).unit u' = s.unit u' := by simp [State.unit]
@[simp] theorem repost_buffer (s : State) (q : Requester) (cls : Nat) (b' : BufferId) :
    (s.repost q cls).buffer b' = s.buffer b' := by simp [State.buffer]
@[simp] theorem repost_slot (s : State) (q : Requester) (cls : Nat) (n' : SlotId) :
    (s.repost q cls).slot n' = s.slot n' := by simp [State.slot]

end Sys2Proof.Machine
end

