-- ==== Sys2Proof/Laws/Command.lean ====
section
/-! SUPPORT. What the shared operations of commands can do, said once: how a command comes to the Command Processor,
when the queue is looked at, how a command is checked for its length and ended (R159, R160, R165, R166), how an event
meets the transaction in flight (R145), how a pin takes a level (R108), and how a byte leaves on the link (R155). -/

namespace Sys2Proof.Machine

open Sys2Proof.Safety

/-! ### Commands of the Command Processor -/

theorem unoccupied_iff (s : State) : s.unoccupied = true ↔ Unoccupied s := by
  unfold State.unoccupied Unoccupied
  simp only [Bool.and_eq_true, Option.isNone_iff_eq_none, List.isEmpty_iff, and_assoc]
  exact and_congr_right fun _ => and_congr_right fun _ => decide_eq_true_iff

/-- A command that comes to an unoccupied Command Processor is carried out. -/
theorem direct_unoccupied {s : State} (h : Unoccupied s) (q : QueuedCommand) (g : State → State) :
    s.direct q g = g (s.start q) := by
  unfold State.direct
  rw [(unoccupied_iff s).mpr h]
  rfl

/-- To an occupied Command Processor none comes. -/
theorem direct_occupied {s : State} (h : ¬ Unoccupied s) (q : QueuedCommand) (g : State → State) : s.direct q g = s := by
  unfold State.direct
  rw [if_neg fun u => h ((unoccupied_iff s).mp u)]

theorem unoccupied_taken {s : State} : Unoccupied s.taken ↔ Unoccupied s := Iff.rfl

/-- A command that starts is under way. -/
theorem taken_start (s : State) (code tag : Byte) (ps : List Byte) :
    s.taken.start ⟨code, tag, ps⟩ = underWay s code tag ps := rfl

/-! ### The command queue after an event (R159) -/

theorem startDue_false {s : State} (h : s.executing.isSome = true ∨ s.link.commands = [] ∨ 3 ≤ s.link.replies.length) :
    s.startDue = false := by
  unfold State.startDue
  rcases h with h | h | h
  · cases he : s.executing <;> simp_all
  · simp [h]
  · have : ¬ s.link.replies.length < Config.replyQueueSize := by simp only [Config.replyQueueSize]; omega
    simp [this]

/-- An event after which no command may start leaves the queue alone. -/
theorem followQueue_idle (old : State) {s : State} (h : s.startDue = false) : State.followQueue old s = s := by
  simp [State.followQueue, h]

/-- An event before which a command could have started leaves the queue alone. -/
theorem followQueue_late {old : State} (h : old.startDue = true) (s : State) : State.followQueue old s = s := by
  simp [State.followQueue, h]

/-- An event that makes a start possible has the commands carried out. -/
theorem followQueue_starts {old s : State} (h : old.startDue = false) (k : s.startDue = true) :
    State.followQueue old s = s.takeCommands := by
  simp [State.followQueue, h, k]

theorem runQueue_idle {s : State} (h : s.startDue = false) (n : Nat) : State.runQueue n s = s := by
  cases n with
  | zero => rfl
  | succ n =>
    unfold State.runQueue
    split
    · rfl
    · rw [h]; rfl

/-- The front command is carried out, and the queue is looked at again. -/
theorem runQueue_front {s : State} {q : QueuedCommand} {rest : List QueuedCommand} (h : s.startDue = true)
    (e : s.link.commands = q :: rest) (n : Nat) :
    State.runQueue (n + 1) s =
      State.runQueue n (({ s with link := { s.link with commands := rest } } : State).carryOut q) := by
  conv_lhs => unfold State.runQueue
  rw [e]
  simp only [h, if_true]

/-! ### Lengths and ends of commands -/

theorem ofLength_eq {ps : List Byte} {n : Nat} (h : ps.length = n) (s : State) (g : State → State) :
    s.ofLength ps n g = g s := if_pos h

theorem ofLength_ne {ps : List Byte} {n : Nat} (h : ps.length ≠ n) (s : State) (g : State → State) :
    s.ofLength ps n g = s.endBadParam 0x01 0xFF := if_neg h

theorem endCommand_some {s : State} {e : Executing} (h : s.executing = some e) (r : ResultCode) (p : List Byte) :
    s.endCommand r p =
      { s with executing := none, link := { s.link with replies := s.link.replies ++ [⟨e.code, e.tag, r, p⟩] } } := by
  simp [State.endCommand, h]

/-- A command under way that ends has answered, and changed nothing else. -/
theorem endCommand_replied (s : State) (code tag : Byte) (ps : List Byte) (r : ResultCode) (p : List Byte) :
    (underWay s code tag ps).endCommand r p = replied s code tag r p := rfl

/-- A command of the right length that comes to an unoccupied Command Processor is carried out. -/
theorem direct_ofLength {s : State} {code tag : Byte} {ps : List Byte} {n : Nat} (h : Unoccupied s)
    (l : ps.length = n) (g : State → State) :
    (s.taken.direct ⟨code, tag, ps⟩ fun t => t.ofLength ps n g) = g (underWay s code tag ps) := by
  rw [direct_unoccupied (unoccupied_taken.mpr h), ofLength_eq l, taken_start]

/-- A command of a wrong length is refused (R166). -/
theorem direct_wrongLength {s : State} {code tag : Byte} {ps : List Byte} {n : Nat} (h : Unoccupied s)
    (l : ps.length ≠ n) (g : State → State) :
    (s.taken.direct ⟨code, tag, ps⟩ fun t => t.ofLength ps n g) = replied s code tag .badParam [0x01, 0xFF] := by
  rw [direct_unoccupied (unoccupied_taken.mpr h), ofLength_ne l, taken_start]
  rfl

/-! ### The transaction in flight -/

theorem atStage_none {s : State} (h : s.card.transaction = none) (gs : List Stage) (g : State → Transaction → State) :
    s.atStage gs g = s := by
  simp [State.atStage, h]

theorem atStage_some {s : State} {t : Transaction} (h : s.card.transaction = some t) (gs : List Stage)
    (g : State → Transaction → State) : s.atStage gs g = if t.stage ∈ gs then g s t else s := by
  simp [State.atStage, h]

theorem attemptFails_first {s : State} {t : Transaction} (h : t.attempt = 1) (r : Result) :
    s.attemptFails t r =
      { s with
        card :=
          { s.card with
            transaction := some { t with attempt := 2, stage := firstStage t.kind t.taken, since := s.now } } } := by
  simp [State.attemptFails, State.mapCard, h]

theorem attemptFails_last {s : State} {t : Transaction} (h : t.attempt ≠ 1) (r : Result) :
    s.attemptFails t r = s.finish t r := if_neg h

/-! ### Pins -/

/-- R108: one pin takes a level. -/
theorem pinsWith_getLsbD (pins : BitVec 9) (p q : InPin) (level : Bool) :
    (pinsWith pins p level).getLsbD q.val = if q = p then level else pins.getLsbD q.val := by
  have hq := q.isLt
  have hp := p.isLt
  by_cases e : q = p
  · subst e
    cases level <;> simp [pinsWith, hq]
  · have ne : q.val ≠ p.val := fun h => e (Fin.ext h)
    have b : (1#9 <<< p.val).getLsbD q.val = false := by
      rw [BitVec.getLsbD_shiftLeft]
      by_cases lt : q.val < p.val
      · simp [lt]
      · have : q.val - p.val ≠ 0 := by omega
        simp [BitVec.getLsbD_one, this]
    rw [if_neg e]
    cases level
    · show (pins &&& ~~~(1#9 <<< p.val)).getLsbD q.val = _
      rw [BitVec.getLsbD_and, BitVec.getLsbD_not, b]
      simp [hq]
    · show (pins ||| (1#9 <<< p.val)).getLsbD q.val = _
      rw [BitVec.getLsbD_or, b, Bool.or_false]

theorem setInput_tied {s : State} {i : Input} (h : s.pinOf i = none) (level : Bool) : s.setInput i level = s := by
  simp [State.setInput, h]

theorem setInput_pin {s : State} {i : Input} {p : InPin} (h : s.pinOf i = some p) (level : Bool) :
    s.setInput i level = s.setPins (pinsWith s.pins p level) none := by
  simp [State.setInput, h]

theorem level_pin {s : State} {i : Input} {p : InPin} (h : s.pinOf i = some p) : s.level i = s.pins.getLsbD p.val := by
  simp [State.level, h]

/-! ### The link -/

/-- R155, R157: a release with no COMMAND frame under way faults nothing. -/
theorem release_plain {s : State} (h : ∀ ps, s.link.frame ≠ some (.command ps)) :
    s.release = { s with link := { s.link with frame := none } } := by
  unfold State.release State.mapLink
  cases hf : s.link.frame with
  | none => simp
  | some f => cases f <;> simp_all

/-- R157: a release inside a COMMAND frame sets FRAME_FAULT. -/
theorem release_command {s : State} {ps : List Byte} (h : s.link.frame = some (.command ps)) :
    s.release = { s with link := { s.link with frame := none, fault := true } } := by
  simp [State.release, State.mapLink, h]

/-- R155, R156: with MSEL negated, a frame's row asserts it, takes the status byte and completes byte 0. -/
theorem beginFrame_negated {s : State} (h : s.link.frame = none) (g : State → State) :
    s.beginFrame g =
      g { s with
        link :=
          { s.link with
            mdo := [s.statusByte], fault := s.link.fault && !s.statusByte.getLsbD 5, frame := some .beyond } } := by
  simp [State.beginFrame, State.select, State.zeroByte, State.mapLink, h]

/-- R155, R156: with MSEL asserted and byte 0 to come, a frame's row completes byte 0 with the status byte taken. -/
theorem beginFrame_opening {s : State} {st : Byte} (h : s.link.frame = some (.opening st)) (g : State → State) :
    s.beginFrame g =
      g { s with
        link := { s.link with mdo := [st], fault := s.link.fault && !st.getLsbD 5, frame := some .beyond } } := by
  simp [State.beginFrame, State.select, State.zeroByte, State.mapLink, h]

/-- R155: a row in a transaction whose byte 0 is complete begins nothing (log entry 8). -/
theorem beginFrame_known {s : State} (h : s.frameKnown = true) (g : State → State) : s.beginFrame g = s := by
  unfold State.frameKnown at h
  unfold State.beginFrame State.select
  cases hf : s.link.frame with
  | none => rw [hf] at h; simp at h
  | some f => cases f <;> simp_all

/-- R155: beyond a frame a byte is ignored and 0x00 is shifted out. -/
theorem exchange_beyond {s : State} (h : s.link.frame = some .beyond) (b : Byte) : s.exchange b = s.shift 0 := by
  simp [State.exchange, h]

end Sys2Proof.Machine
end

