-- ==== Sys2Proof/Laws/Frame.lean ====
section
/-! SUPPORT. What the operations of the Track Cache leave as it is (chapter 3): everything but the buffers, the cache's
own items, the arbiter's request list, the pending record, the report queue and the model's count of choices. -/

namespace Sys2Proof.Machine

/-! ### Reports -/

/-- What a report does to the link: the queue grows at its back, or a report is lost; the rest stays. -/
structure LinkFrame (l m : Link) : Prop where
  rest : m = { l with reports := m.reports, lost := m.lost, frame := m.frame }
  reports : l.reports <+: m.reports
  bounded : l.reports.length ≤ 16 → m.reports.length ≤ 16

theorem LinkFrame.refl (l : Link) : LinkFrame l l := ⟨rfl, List.prefix_refl _, id⟩

theorem LinkFrame.trans {l m n : Link} (h : LinkFrame l m) (k : LinkFrame m n) : LinkFrame l n where
  rest := by rw [k.rest, h.rest]
  reports := h.reports.trans k.reports
  bounded := fun b => k.bounded (h.bounded b)

theorem report_linkFrame (s : State) (r : Report) : LinkFrame s.link (s.report r).link := by
  unfold State.report
  split
  · rename_i h
    refine ⟨rfl, List.prefix_append _ _, fun _ => ?_⟩
    simp only [Config.reportQueueSize] at h
    simp; omega
  · exact ⟨rfl, List.prefix_refl _, id⟩

/-- A report joins a queue that has room. -/
theorem report_reports (s : State) (r : Report) (h : s.link.reports.length < 16) :
    (s.report r).link.reports = s.link.reports ++ [r] := by
  simp [State.report, Config.reportQueueSize, h]

/-! ### The frame of the cache -/

/-- What every operation of the Track Cache leaves as it is. -/
structure CacheFrame (s t : State) : Prop where
  rest : t =
    { s with
      choices := t.choices, buffers := t.buffers, cache := t.cache, wcu := t.wcu, card := t.card, link := t.link }
  wcu : t.wcu = { s.wcu with pending := t.wcu.pending }
  card : t.card = { s.card with requests := t.card.requests }
  link : LinkFrame s.link t.link

theorem CacheFrame.refl (s : State) : CacheFrame s s := ⟨rfl, rfl, rfl, LinkFrame.refl _⟩

theorem CacheFrame.trans {s t x : State} (h : CacheFrame s t) (k : CacheFrame t x) : CacheFrame s x where
  rest := by rw [k.rest, h.rest]
  wcu := by rw [k.wcu, h.wcu]
  card := by rw [k.card, h.card]
  link := h.link.trans k.link

theorem CacheFrame.pending {s t : State} (h : CacheFrame s t) : t.pending = s.pending := by rw [h.rest]

theorem CacheFrame.now {s t : State} (h : CacheFrame s t) : t.now = s.now := by rw [h.rest]

theorem CacheFrame.moment {s t : State} (h : CacheFrame s t) : t.moment = s.moment := by rw [h.rest]

theorem CacheFrame.resetPin {s t : State} (h : CacheFrame s t) : t.resetPin = s.resetPin := by rw [h.rest]

theorem CacheFrame.pins {s t : State} (h : CacheFrame s t) : t.pins = s.pins := by rw [h.rest]

theorem CacheFrame.profile {s t : State} (h : CacheFrame s t) : t.profile = s.profile := by rw [h.rest]

theorem CacheFrame.conflict {s t : State} (h : CacheFrame s t) : t.conflict = s.conflict := by rw [h.rest]

theorem CacheFrame.units {s t : State} (h : CacheFrame s t) : t.units = s.units := by rw [h.rest]

theorem CacheFrame.formats {s t : State} (h : CacheFrame s t) : t.formats = s.formats := by rw [h.rest]

theorem CacheFrame.slots {s t : State} (h : CacheFrame s t) : t.slots = s.slots := by rw [h.rest]

theorem CacheFrame.eject {s t : State} (h : CacheFrame s t) : t.eject = s.eject := by rw [h.rest]

theorem CacheFrame.executing {s t : State} (h : CacheFrame s t) : t.executing = s.executing := by rw [h.rest]

theorem CacheFrame.unit {s t : State} (h : CacheFrame s t) (u : DriveId) : t.unit u = s.unit u := by
  simp [State.unit, h.units]

theorem CacheFrame.slot {s t : State} (h : CacheFrame s t) (n : SlotId) : t.slot n = s.slot n := by
  simp [State.slot, h.slots]

theorem CacheFrame.image {s t : State} (h : CacheFrame s t) (u : DriveId) : t.image u = s.image u := by
  simp [State.image, h.unit, h.slot]

theorem CacheFrame.format {s t : State} (h : CacheFrame s t) (u : DriveId) : t.format u = s.format u := by
  simp [State.format, h.image, h.formats]

theorem CacheFrame.span {s t : State} (h : CacheFrame s t) (k : Key) : t.span k = s.span k := by
  simp [State.span, h.image, h.formats]

theorem CacheFrame.level {s t : State} (h : CacheFrame s t) (i : Input) : t.level i = s.level i := by
  simp [State.level, State.pinOf, h.profile, h.pins]

theorem CacheFrame.key {s t : State} (h : CacheFrame s t) (u : DriveId) : t.key u = s.key u := by
  simp [State.key, State.head, h.unit, h.level]

theorem CacheFrame.keyInside {s t : State} (h : CacheFrame s t) (k : Key) : t.keyInside k = s.keyInside k := by
  simp only [State.keyInside, h.format]

theorem CacheFrame.demand {s t : State} (h : CacheFrame s t) (u : DriveId) : t.demand u = s.demand u := by
  unfold State.demand
  rw [h.unit, h.key, h.keyInside]

theorem CacheFrame.inFlight {s t : State} (h : CacheFrame s t) : t.inFlight = s.inFlight := by
  rw [State.inFlight, State.inFlight, h.card]

/-- A fold of operations that keep the frame keeps it. -/
theorem foldl_cacheFrame {α : Type} (g : State → α → State) (h : ∀ s x, CacheFrame s (g s x)) (xs : List α)
    (s : State) : CacheFrame s (xs.foldl g s) := by
  induction xs generalizing s with
  | nil => exact .refl s
  | cons x xs ih => exact (h s x).trans (ih _)

theorem ite_cacheFrame {p : Prop} [Decidable p] {s a b : State} (h : CacheFrame s a) (k : CacheFrame s b) :
    CacheFrame s (if p then a else b) := by
  split
  · exact h
  · exact k

/-! ### Small updates -/

theorem setBuffer_frame (s : State) (b : BufferId) (x : Buffer) : CacheFrame s (s.setBuffer b x) :=
  ⟨rfl, rfl, rfl, LinkFrame.refl _⟩

theorem mapBuffer_frame (s : State) (b : BufferId) (g : Buffer → Buffer) : CacheFrame s (s.mapBuffer b g) :=
  setBuffer_frame s b _

theorem freeBuffer_frame (s : State) (b : BufferId) : CacheFrame s (s.freeBuffer b) := setBuffer_frame s b _

theorem setCache_frame (s : State) (c : Cache) : CacheFrame s (s.setCache c) :=
  ⟨rfl, rfl, rfl, LinkFrame.refl _⟩

theorem setPrediction_frame (s : State) (u : DriveId) (p : Option Prediction) : CacheFrame s (s.setPrediction u p) :=
  setCache_frame s _

theorem setHeld_frame (s : State) (c : Option Capture) : CacheFrame s (s.setHeld c) :=
  ⟨rfl, rfl, rfl, LinkFrame.refl _⟩

theorem choices_frame (s : State) (n : Nat) : CacheFrame s { s with choices := n } :=
  ⟨rfl, rfl, rfl, LinkFrame.refl _⟩

theorem post_frame (s : State) (kind : TransKind) (block : Nat) (q : Requester) (cls : Nat)
    (range : Option (Nat × Nat)) : CacheFrame s (s.post kind block q cls range) :=
  ⟨rfl, rfl, rfl, LinkFrame.refl _⟩

theorem withdraw_frame (s : State) (q : Requester) : CacheFrame s (s.withdraw q) :=
  ⟨rfl, rfl, rfl, LinkFrame.refl _⟩

theorem repost_frame (s : State) (q : Requester) (cls : Nat) : CacheFrame s (s.repost q cls) := by
  unfold State.repost
  split
  · exact .refl s
  · exact (withdraw_frame s q).trans (post_frame _ _ _ _ _ _)

theorem report_frame (s : State) (r : Report) : CacheFrame s (s.report r) where
  rest := by unfold State.report; split <;> rfl
  wcu := by simp
  card := by simp
  link := report_linkFrame s r

theorem oweFillPass_frame (s : State) : CacheFrame s s.oweFillPass := setCache_frame s _

theorem swapRecency_frame (s : State) (a b : BufferId) : CacheFrame s (s.swapRecency a b) := by
  unfold State.swapRecency
  exact (mapBuffer_frame ..).trans (mapBuffer_frame ..)

theorem orderStamps_frame (old s : State) : CacheFrame s (State.orderStamps old s) := by
  unfold State.orderStamps
  split
  · exact ite_cacheFrame (swapRecency_frame ..) (.refl s)
  · exact .refl s

theorem stampBuffer_frame (s : State) (b : BufferId) : CacheFrame s (s.stampBuffer b) := by
  unfold State.stampBuffer
  exact (setCache_frame ..).trans (mapBuffer_frame ..)

/-! ### Fills -/

theorem postFill_frame (s : State) (b : BufferId) : CacheFrame s (s.postFill b) := by
  unfold State.postFill
  split
  · exact .refl s
  · split
    · exact .refl s
    · exact post_frame ..

theorem startFill_frame (s : State) (b : BufferId) : CacheFrame s (s.startFill b) := by
  unfold State.startFill
  split
  · exact .refl s
  · split
    · exact .refl s
    · exact (mapBuffer_frame ..).trans (postFill_frame ..)

theorem allocate_frame (s : State) (b : BufferId) (k : Key) (cls : Nat) : CacheFrame s (s.allocate b k cls) := by
  unfold State.allocate
  split
  · exact .refl s
  · exact (((choices_frame s _).trans (setBuffer_frame ..)).trans (stampBuffer_frame ..)).trans (startFill_frame ..)

theorem setFillClass_frame (s : State) (b : BufferId) (cls : Nat) : CacheFrame s (s.setFillClass b cls) :=
  (mapBuffer_frame ..).trans (repost_frame ..)

theorem takePrefetch_frame (s : State) (b : BufferId) (u : DriveId) (k : Key) :
    CacheFrame s (s.takePrefetch b u k) := by
  unfold State.takePrefetch
  split
  · exact mapBuffer_frame ..
  · exact (withdraw_frame ..).trans (allocate_frame ..)

/-! ### Flushes -/

theorem postFlush_frame (s : State) (b : BufferId) (p : Span) (blk : Nat) : CacheFrame s (s.postFlush b p blk) := by
  unfold State.postFlush
  split
  · exact (mapBuffer_frame ..).trans (post_frame ..)
  · exact (mapBuffer_frame ..).trans (post_frame ..)

theorem sendFlush_frame (s : State) (b : BufferId) (cls : Nat) : CacheFrame s (s.sendFlush b cls) := by
  unfold State.sendFlush
  split
  · exact .refl s
  · exact (mapBuffer_frame ..).trans (postFlush_frame ..)

theorem raiseFlush_frame (s : State) (b : BufferId) : CacheFrame s (s.raiseFlush b) := by
  unfold State.raiseFlush
  split
  · exact .refl s
  · exact (mapBuffer_frame ..).trans (repost_frame ..)

theorem reportAttempt_frame (s : State) (x : Buffer) : CacheFrame s (s.reportAttempt x) := by
  unfold State.reportAttempt
  split
  · exact .refl s
  · simp only []
    split
    · exact (report_frame ..).trans (report_frame ..)
    · exact report_frame ..

theorem noteAttempt_frame (s : State) (b : BufferId) (e : Option (Nat × Result)) :
    CacheFrame s (s.noteAttempt b e) := setCache_frame ..

theorem endAttempt_frame (s : State) (b : BufferId) : CacheFrame s (s.endAttempt b) := by
  unfold State.endAttempt
  simp only []
  split
  · have h := ((setBuffer_frame s b (s.buffer b).attemptOk).trans (noteAttempt_frame _ b none)).trans
      (oweFillPass_frame _)
    exact ite_cacheFrame (h.trans (sendFlush_frame ..)) h
  · exact (((reportAttempt_frame ..).trans (setBuffer_frame ..)).trans (noteAttempt_frame ..)).trans
      (oweFillPass_frame _)

theorem beginAttempt_frame (s : State) (b : BufferId) (cls : Nat) : CacheFrame s (s.beginAttempt b cls) := by
  unfold State.beginAttempt
  split
  · exact (mapBuffer_frame ..).trans (endAttempt_frame ..)
  · exact sendFlush_frame ..

theorem continueFlush_frame (s : State) (b : BufferId) : CacheFrame s (s.continueFlush b) := by
  unfold State.continueFlush
  split
  · exact endAttempt_frame ..
  · exact postFlush_frame ..

theorem failBlock_frame (s : State) (b : BufferId) (r : Result) : CacheFrame s (s.failBlock b r) := by
  unfold State.failBlock
  split
  · exact .refl s
  · split
    · exact .refl s
    · exact (setCache_frame ..).trans (mapBuffer_frame ..)

/-! ### Captures -/

theorem writeLost_frame (s : State) (c : Capture) (detail : Nat) : CacheFrame s (s.writeLost c detail) :=
  report_frame ..

/-- A capture notes nothing in an attempt but the mark of R107. -/
theorem noteCapture_eq (x : Buffer) (c : Capture) :
    x.noteCapture c = { x.attempt with formatted := (x.noteCapture c).formatted } := by
  unfold Buffer.noteCapture
  split
  · rfl
  · split <;> rfl

theorem applyCapture_frame (s : State) (b : BufferId) (c : Capture) : CacheFrame s (s.applyCapture b c) :=
  mapBuffer_frame ..

theorem toPending_frame (s : State) (c : Capture) : CacheFrame s (s.toPending c) := by
  unfold State.toPending
  split
  · exact setHeld_frame ..
  · exact ((setHeld_frame ..).trans (writeLost_frame ..)).trans (writeLost_frame ..)

theorem handCapture_frame (s : State) (c : Capture) : CacheFrame s (s.handCapture c) := by
  unfold State.handCapture
  split
  · exact ite_cacheFrame (writeLost_frame ..) (toPending_frame ..)
  · split
    · exact writeLost_frame ..
    · exact ite_cacheFrame (writeLost_frame ..) (toPending_frame ..)
    · exact toPending_frame ..
    · exact applyCapture_frame ..
    · exact applyCapture_frame ..
    · exact applyCapture_frame ..
    · exact applyCapture_frame ..

theorem discardPending_frame (s : State) (test : Capture → Bool) (detail : Nat) :
    CacheFrame s (s.discardPending test detail) := by
  unfold State.discardPending
  split
  · exact .refl s
  · exact ite_cacheFrame ((setHeld_frame ..).trans (writeLost_frame ..)) (.refl s)

/-! ### Predictions -/

theorem predict_frame (s : State) (u : DriveId) : CacheFrame s (s.predict u) := by
  unfold State.predict
  split
  · split
    · split
      · exact setPrediction_frame ..
      · exact ite_cacheFrame (setPrediction_frame ..) (setPrediction_frame ..)
    · exact .refl s
  · exact .refl s

theorem actOnPrediction_frame (s : State) (u : DriveId) : CacheFrame s (s.actOnPrediction u) := by
  unfold State.actOnPrediction
  split
  · exact .refl s
  · split
    · split
      · exact .refl s
      · exact (setPrediction_frame ..).trans (allocate_frame ..)
    · exact .refl s

theorem actOnPredictions_frame (s : State) : CacheFrame s s.actOnPredictions := by
  unfold State.actOnPredictions
  split
  · exact ite_cacheFrame ((actOnPrediction_frame ..).trans (actOnPrediction_frame ..))
      ((actOnPrediction_frame ..).trans (actOnPrediction_frame ..))
  · exact (actOnPrediction_frame ..).trans (actOnPrediction_frame ..)

/-! ### The ends of fills and flushes -/

theorem completeFill_frame (s : State) (b : BufferId) (k : Key) : CacheFrame s (s.completeFill b k) := by
  unfold State.completeFill
  simp only []
  refine CacheFrame.trans (t := _) ?_ (ite_cacheFrame (predict_frame ..) (.refl _))
  have h := (mapBuffer_frame s b fun x =>
    { x with state := .valid, fillClass := none, entries := x.entries.map fun e => { e with dirty := false } }).trans
    (oweFillPass_frame _)
  split
  · exact h
  · exact ite_cacheFrame ((h.trans (setHeld_frame ..)).trans (applyCapture_frame ..)) h

theorem failFill_frame (s : State) (b : BufferId) (k : Key) : CacheFrame s (s.failFill b k) :=
  ((mapBuffer_frame ..).trans (report_frame ..)).trans (discardPending_frame ..)

theorem fillResult_frame (s : State) (b : BufferId) (r : Result) (block : List Byte) :
    CacheFrame s (s.fillResult b r block) := by
  unfold State.fillResult
  split
  · exact .refl s
  · split
    · exact .refl s
    · exact ite_cacheFrame
        (ite_cacheFrame ((mapBuffer_frame ..).trans (completeFill_frame ..))
          (((mapBuffer_frame ..).trans (mapBuffer_frame ..)).trans (postFill_frame ..)))
        (failFill_frame ..)

theorem givenUpFill_frame (s : State) (b : BufferId) : CacheFrame s (s.givenUpFill b) := by
  unfold State.givenUpFill
  split
  · split
    · exact freeBuffer_frame ..
    · exact allocate_frame ..
  · exact freeBuffer_frame ..

theorem deliverFill_frame (s : State) (b : BufferId) (r : Result) (block : List Byte) :
    CacheFrame s (s.deliverFill b r block) :=
  ite_cacheFrame (ite_cacheFrame (fillResult_frame ..) (givenUpFill_frame ..)) (.refl s)

theorem deliverFlush_frame (s : State) (b : BufferId) (r : Result) : CacheFrame s (s.deliverFlush b r) :=
  ite_cacheFrame ((ite_cacheFrame (.refl s) (failBlock_frame ..)).trans (continueFlush_frame ..)) (.refl s)

/-! ### Demand -/

theorem demandFill_frame (s : State) (u : DriveId) (k : Key) : CacheFrame s (s.demandFill u k).1 := by
  unfold State.demandFill
  split
  · exact allocate_frame ..
  · split
    · exact takePrefetch_frame ..
    · split
      · exact beginAttempt_frame ..
      · exact .refl s

theorem resumeFill_frame (s : State) (u : DriveId) : CacheFrame s (s.resumeFill u) := by
  unfold State.resumeFill
  simp only []
  split
  · exact setCache_frame ..
  · rename_i k _
    have h := demandFill_frame s u k
    split
    · exact setCache_frame ..
    · split
      · rename_i t e
        rw [e] at h
        exact h.trans (setCache_frame ..)
      · rename_i t e
        rw [e] at h
        exact h

theorem resumeFills_frame (s : State) : CacheFrame s s.resumeFills := foldl_cacheFrame _ resumeFill_frame _ s

theorem raiseForWaiting_frame (s : State) : CacheFrame s s.raiseForWaiting := by
  unfold State.raiseForWaiting
  split
  · exact .refl s
  · exact foldl_cacheFrame _ (fun t b => ite_cacheFrame (raiseFlush_frame ..) (.refl t)) _ s

theorem lapsePromise_frame (s : State) (u : DriveId) : CacheFrame s (s.lapsePromise u) :=
  foldl_cacheFrame _ (fun t _ => ite_cacheFrame (mapBuffer_frame ..) (.refl t)) _ s

theorem endDemand_frame (old s : State) (u : DriveId) : CacheFrame s (State.endDemand old s u) :=
  ite_cacheFrame (.refl s)
    ((((setCache_frame ..).trans (setPrediction_frame ..)).trans (lapsePromise_frame ..)).trans
      (discardPending_frame ..))

theorem lowerFill_frame (s : State) (b : BufferId) : CacheFrame s (s.lowerFill b) :=
  ite_cacheFrame (setFillClass_frame ..) (.refl s)

theorem meetDemand_frame (old s : State) (u : DriveId) : CacheFrame s (State.meetDemand old s u) := by
  unfold State.meetDemand
  split
  · exact .refl s
  · split
    · exact .refl s
    · split
      · exact .refl s
      · rename_i b _
        have h : CacheFrame s (if old.current b then s else s.stampBuffer b) :=
          ite_cacheFrame (.refl s) (stampBuffer_frame ..)
        exact ite_cacheFrame (h.trans (setFillClass_frame ..)) (ite_cacheFrame (h.trans (predict_frame ..)) h)

theorem wantFill_frame (old s : State) (u : DriveId) : CacheFrame s (State.wantFill old s u) := by
  unfold State.wantFill
  split
  · exact .refl s
  · split
    · exact .refl s
    · rename_i k _
      have h := demandFill_frame s u k
      split
      · exact .refl s
      · split
        · rename_i t e
          rw [e] at h
          exact h
        · rename_i t e
          rw [e] at h
          exact h.trans (setCache_frame ..)

theorem followDemand_frame (old s : State) : CacheFrame s (State.followDemand old s) := by
  unfold State.followDemand
  simp only []
  refine CacheFrame.trans ?_ (setCache_frame ..)
  refine CacheFrame.trans ?_ (actOnPredictions_frame _)
  refine CacheFrame.trans ?_ (raiseForWaiting_frame _)
  refine CacheFrame.trans ?_ (orderStamps_frame old _)
  refine CacheFrame.trans ?_ (foldl_cacheFrame _ (wantFill_frame old) driveIds _)
  have h : CacheFrame s (driveIds.foldl (State.meetDemand old)
      (bufferIds.foldl State.lowerFill (driveIds.foldl (State.endDemand old) s))) :=
    ((foldl_cacheFrame _ (endDemand_frame old) driveIds s).trans
      (foldl_cacheFrame _ lowerFill_frame bufferIds _)).trans (foldl_cacheFrame _ (meetDemand_frame old) driveIds _)
  exact ite_cacheFrame (h.trans (resumeFills_frame _)) h

theorem trackMiss_frame (old s : State) (u : DriveId) : CacheFrame s (State.trackMiss old s u) := by
  unfold State.trackMiss
  split
  · exact .refl s
  · split
    · exact .refl s
    · exact ite_cacheFrame (.refl s) (report_frame ..)

theorem retryFill_frame (s : State) (u : DriveId) : CacheFrame s (s.retryFill u) := by
  unfold State.retryFill
  split
  · exact .refl s
  · split
    · exact .refl s
    · exact ite_cacheFrame ((mapBuffer_frame ..).trans (startFill_frame ..)) (.refl s)

theorem flushOnStop_frame (old s : State) (u : DriveId) : CacheFrame s (State.flushOnStop old s u) :=
  ite_cacheFrame (foldl_cacheFrame _ (fun t _ => ite_cacheFrame (beginAttempt_frame ..) (.refl t)) _ s) (.refl s)

/-! ### The service, and media leaving READY -/

theorem startService_frame (s : State) (units : List DriveId) : CacheFrame s (s.startService units) :=
  (setCache_frame ..).trans
    (foldl_cacheFrame _ (fun _ _ => ite_cacheFrame (raiseFlush_frame ..) (beginAttempt_frame ..)) _ _)

theorem stopFill_frame (u : DriveId) (s : State) (b : BufferId) : CacheFrame s (State.stopFill u s b) := by
  unfold State.stopFill
  simp only []
  split
  · split
    · split
      · exact mapBuffer_frame ..
      · exact .refl s
    · exact (withdraw_frame ..).trans (freeBuffer_frame ..)
  · exact .refl s

theorem stopUnit_frame (s : State) (u : DriveId) : CacheFrame s (s.stopUnit u) :=
  (foldl_cacheFrame _ (stopFill_frame u) _ s).trans (discardPending_frame ..)

theorem releaseBuffer_frame (u : DriveId) (s : State) (b : BufferId) : CacheFrame s (State.releaseBuffer u s b) :=
  ite_cacheFrame (((withdraw_frame ..).trans (withdraw_frame ..)).trans (freeBuffer_frame ..)) (.refl s)

theorem releaseUnit_frame (s : State) (u : DriveId) : CacheFrame s (s.releaseUnit u) :=
  foldl_cacheFrame _ (releaseBuffer_frame u) _ s

theorem withdrawUnit_frame (s : State) (u : DriveId) : CacheFrame s (s.withdrawUnit u) :=
  foldl_cacheFrame _
    (fun t _ => ite_cacheFrame ((withdraw_frame ..).trans (withdraw_frame ..)) (.refl t)) _ s

end Sys2Proof.Machine
end

