-- ==== Sys2Proof/Laws/Event.lean ====
section
/-! SUPPORT. What the reaction of the blocks to an event leaves as it is, while no eject is in the phase HOLD, and that
every read stream mode is taken up at its end (R66). -/

namespace Sys2Proof.Machine

open Sys2Proof.Safety

/-! ### Read streams -/

/-- The items of the Stream Synthesizer alone have changed. -/
def StreamKept (x y : UnitState) : Prop :=
  y =
    { x with
      mode := y.mode, prevBit := y.prevBit, hold := y.hold, taken := y.taken, clockCell := y.clockCell
      dataCell := y.dataCell, pulseEnd := y.pulseEnd }

theorem StreamKept.refl (x : UnitState) : StreamKept x x := rfl

theorem StreamKept.trans {x y z : UnitState} (h : StreamKept x y) (k : StreamKept y z) : StreamKept x z := by
  unfold StreamKept at *
  rw [k, h]

/-- What a change of a unit's read stream leaves as it is. -/
structure StreamFrame (s t : State) : Prop where
  rest : t = { s with units := t.units }
  units : ∀ u, StreamKept (s.unit u) (t.unit u)

theorem StreamFrame.refl (s : State) : StreamFrame s s := ⟨rfl, fun _ => .refl _⟩

theorem StreamFrame.trans {s t x : State} (h : StreamFrame s t) (k : StreamFrame t x) : StreamFrame s x :=
  ⟨by rw [k.rest, h.rest], fun u => (h.units u).trans (k.units u)⟩

theorem setUnit_streamFrame (s : State) (u : DriveId) (x : UnitState) (h : StreamKept (s.unit u) x) :
    StreamFrame s (s.setUnit u x) := by
  refine ⟨rfl, fun v => ?_⟩
  rw [unit_setUnit]
  split
  · rename_i e
    subst e
    exact h
  · exact .refl _

theorem ite_streamFrame {p : Prop} [Decidable p] {s a b : State} (h : StreamFrame s a) (k : StreamFrame s b) :
    StreamFrame s (if p then a else b) := by
  split
  · exact h
  · exact k

theorem emitBit_frame (s : State) (u : DriveId) : StreamFrame s (s.emitBit u) := by
  unfold State.emitBit
  split
  · exact .refl s
  · exact ite_streamFrame (setUnit_streamFrame _ _ _ rfl)
      (ite_streamFrame (setUnit_streamFrame _ _ _ rfl) (setUnit_streamFrame _ _ _ rfl))

theorem silence_frame (old s : State) (u : DriveId) : StreamFrame s (State.silence old s u) :=
  setUnit_streamFrame _ _ _ rfl

theorem setHold_frame (old s : State) (u : DriveId) : StreamFrame s (State.setHold old s u) := by
  unfold State.setHold
  simp only []
  have h := (silence_frame old s u).trans
    (setUnit_streamFrame (State.silence old s u) u { (State.silence old s u).unit u with hold := true } rfl)
  split
  · exact h
  · exact ite_streamFrame (h.trans (emitBit_frame _ u)) h

theorem takeMode_frame (old s : State) (u : DriveId) : StreamFrame s (State.takeMode old s u) := by
  unfold State.takeMode
  simp only []
  have h := setUnit_streamFrame s u { s.unit u with mode := s.modeOf u } rfl
  split
  · exact h
  · exact h
  · exact ite_streamFrame h (h.trans (setHold_frame ..))
  · exact (h.trans (silence_frame old _ u)).trans (setUnit_streamFrame _ _ _ rfl)
  · exact h.trans (setHold_frame ..)

/-- The mode that a unit's conditions give does not depend on the read streams. -/
theorem StreamFrame.modeOf {s t : State} (h : StreamFrame s t) (u : DriveId) : t.modeOf u = s.modeOf u := by
  have hb : t.buffers = s.buffers := by rw [h.rest]
  have hs : t.slots = s.slots := by rw [h.rest]
  have hf : t.formats = s.formats := by rw [h.rest]
  have hw : t.wcu = s.wcu := by rw [h.rest]
  have hp : t.profile = s.profile := by rw [h.rest]
  have hi : t.pins = s.pins := by rw [h.rest]
  have media : ∀ v, (t.unit v).media = (s.unit v).media := fun v => by rw [h.units v]
  have motor : ∀ v, (t.unit v).motor = (s.unit v).motor := fun v => by rw [h.units v]
  have settle : ∀ v, (t.unit v).settleDue = (s.unit v).settleDue := fun v => by rw [h.units v]
  have cyl : ∀ v, (t.unit v).cylinder = (s.unit v).cylinder := fun v => by rw [h.units v]
  have mounted : ∀ v, (t.unit v).mounted = (s.unit v).mounted := fun v => by rw [h.units v]
  have window : t.windowOf u = s.windowOf u := by simp only [State.windowOf, hw]
  have level : ∀ i, t.level i = s.level i := fun i => by simp only [State.level, State.pinOf, hp, hi]
  have key : t.key u = s.key u := by simp only [State.key, State.head, cyl, level]
  have image : ∀ v, t.image v = s.image v := fun v => by simp only [State.image, State.slot, mounted, hs]
  have inside : ∀ k, t.keyInside k = s.keyInside k := fun k => by
    simp only [State.keyInside, State.format, image, hf]
  have resident : ∀ k, t.resident k = s.resident k := fun k => by
    simp only [State.resident, State.holder, State.buffer, hb]
  unfold State.modeOf
  rw [media, motor, settle, window, key, inside, resident]

/-- R66: a unit's mode, once taken up, is that of its conditions. -/
theorem takeMode_mode (old s : State) (u : DriveId) : ((State.takeMode old s u).unit u).mode = s.modeOf u := by
  have hold : ∀ x : State, ((State.setHold old x u).unit u).mode = (x.unit u).mode := by
    intro x
    have emit : ∀ y : State, ((y.emitBit u).unit u).mode = (y.unit u).mode := by
      intro y
      unfold State.emitBit
      simp only []
      split
      · rfl
      · split
        · simp [UnitState.silent]
        · split
          · simp [UnitState.silent]
          · simp
    unfold State.setHold
    simp only []
    have h2 : (((State.silence old x u).setUnit u { (State.silence old x u).unit u with hold := true }).unit u).mode =
        (x.unit u).mode := by simp [State.silence, UnitState.silent]
    split
    · exact h2
    · split
      · exact (emit _).trans h2
      · exact h2
  unfold State.takeMode
  simp only []
  split
  · simp
  · simp
  · split
    · simp
    · rw [hold]; simp
  · simp [State.silence, UnitState.silent]
  · rw [hold]; simp

theorem takeMode_other (old s : State) {u v : DriveId} (h : v ≠ u) :
    (State.takeMode old s u).unit v = s.unit v := by
  have emit : ∀ y : State, (y.emitBit u).unit v = y.unit v := by
    intro y
    unfold State.emitBit
    simp only []
    split
    · rfl
    · split
      · simp [unit_setUnit_ne _ _ h]
      · split <;> simp [unit_setUnit_ne _ _ h]
  have hold : ∀ x : State, (State.setHold old x u).unit v = x.unit v := by
    intro x
    unfold State.setHold
    simp only []
    split
    · simp [State.silence, unit_setUnit_ne _ _ h]
    · split
      · rw [emit]; simp [State.silence, unit_setUnit_ne _ _ h]
      · simp [State.silence, unit_setUnit_ne _ _ h]
  unfold State.takeMode
  simp only []
  split
  · simp [unit_setUnit_ne _ _ h]
  · simp [unit_setUnit_ne _ _ h]
  · split
    · simp [unit_setUnit_ne _ _ h]
    · rw [hold]; simp [unit_setUnit_ne _ _ h]
  · simp [State.silence, unit_setUnit_ne _ _ h]
  · rw [hold]; simp [unit_setUnit_ne _ _ h]

/-- R66: after both units' modes are taken up, each is that of its conditions. -/
theorem takeModes_taken (old s : State) : ModesTaken (driveIds.foldl (State.takeMode old) s) := by
  have h0 := takeMode_frame old s 0
  have h1 := takeMode_frame old (State.takeMode old s 0) 1
  intro u
  show ((State.takeMode old (State.takeMode old s 0) 1).unit u).mode =
    (State.takeMode old (State.takeMode old s 0) 1).modeOf u
  match u with
  | 0 => rw [takeMode_other _ _ (by decide), takeMode_mode, h1.modeOf, h0.modeOf]
  | 1 => rw [takeMode_mode, h1.modeOf]

theorem takeModes_frame (old s : State) : StreamFrame s (driveIds.foldl (State.takeMode old) s) :=
  (takeMode_frame old s 0).trans (takeMode_frame old _ 1)

/-- R66: every reaction ends with the modes taken up. -/
theorem react_modes (old s : State) : ModesTaken (react old s) := fun u => takeModes_taken old _ u

/-! ### Motors (R116) -/

/-- What the units' motors leave as it is. -/
structure MotorFrame (s t : State) : Prop where
  rest : t = { s with units := t.units }
  units : ∀ u, t.unit u = { s.unit u with motor := (t.unit u).motor, spinUpDue := (t.unit u).spinUpDue }

theorem followMotor_frame (old s : State) (u : DriveId) : MotorFrame s (State.followMotor old s u) := by
  have set : ∀ m d, MotorFrame s (s.setUnit u { s.unit u with motor := m, spinUpDue := d }) := by
    intro m d
    refine ⟨rfl, fun v => ?_⟩
    rw [unit_setUnit]
    split
    · rename_i e
      subst e
      rfl
    · rfl
  unfold State.followMotor
  split
  · split
    · split
      · exact set _ _
      · exact set _ _
    · exact ⟨rfl, fun _ => rfl⟩
  · exact set _ _
  · exact ⟨rfl, fun _ => rfl⟩

/-- A unit's motor does not follow the other unit's signal. -/
theorem followMotor_other (old s : State) {u v : DriveId} (h : v ≠ u) :
    (State.followMotor old s u).unit v = s.unit v := by
  unfold State.followMotor
  split
  · split
    · split <;> simp [unit_setUnit_ne _ _ h]
    · rfl
  · simp [unit_setUnit_ne _ _ h]
  · rfl

/-! ### The rest of a reaction -/

/-- What a reaction without an eject changes of a unit, once the motors have followed: its rotation and its read
stream. -/
def HeadKept (x y : UnitState) : Prop :=
  y =
    { x with
      rotationStart := y.rotationStart, bitCount := y.bitCount, mode := y.mode, prevBit := y.prevBit, hold := y.hold
      taken := y.taken, clockCell := y.clockCell, dataCell := y.dataCell, pulseEnd := y.pulseEnd }

theorem HeadKept.refl (x : UnitState) : HeadKept x x := rfl

theorem HeadKept.trans {x y z : UnitState} (h : HeadKept x y) (k : HeadKept y z) : HeadKept x z := by
  unfold HeadKept at *
  rw [k, h]

theorem StreamKept.head {x y : UnitState} (h : StreamKept x y) : HeadKept x y := by
  unfold StreamKept at h
  rw [h]
  rfl

/-- What an event leaves as it is in the blocks that only follow it. -/
structure EventFrame (s t : State) : Prop where
  rest : t =
    { s with
      choices := t.choices, conflict := t.conflict, units := t.units, buffers := t.buffers, cache := t.cache
      wcu := t.wcu, card := t.card, link := t.link }
  card : t.card = { s.card with requests := t.card.requests }
  link : LinkFrame s.link t.link
  units : ∀ u, HeadKept (s.unit u) (t.unit u)

theorem EventFrame.refl (s : State) : EventFrame s s := ⟨rfl, rfl, LinkFrame.refl _, fun _ => .refl _⟩

theorem EventFrame.trans {s t x : State} (h : EventFrame s t) (k : EventFrame t x) : EventFrame s x where
  rest := by rw [k.rest, h.rest]
  card := by rw [k.card, h.card]
  link := h.link.trans k.link
  units := fun u => (h.units u).trans (k.units u)

theorem EventFrame.pending {s t : State} (h : EventFrame s t) : t.pending = s.pending := by rw [h.rest]

theorem EventFrame.now {s t : State} (h : EventFrame s t) : t.now = s.now := by rw [h.rest]

theorem EventFrame.moment {s t : State} (h : EventFrame s t) : t.moment = s.moment := by rw [h.rest]

theorem EventFrame.resetPin {s t : State} (h : EventFrame s t) : t.resetPin = s.resetPin := by rw [h.rest]

theorem EventFrame.pins {s t : State} (h : EventFrame s t) : t.pins = s.pins := by rw [h.rest]

theorem EventFrame.profile {s t : State} (h : EventFrame s t) : t.profile = s.profile := by rw [h.rest]

theorem EventFrame.formats {s t : State} (h : EventFrame s t) : t.formats = s.formats := by rw [h.rest]

theorem EventFrame.slots {s t : State} (h : EventFrame s t) : t.slots = s.slots := by rw [h.rest]

theorem EventFrame.eject {s t : State} (h : EventFrame s t) : t.eject = s.eject := by rw [h.rest]

theorem EventFrame.executing {s t : State} (h : EventFrame s t) : t.executing = s.executing := by rw [h.rest]

theorem CacheFrame.event {s t : State} (h : CacheFrame s t) : EventFrame s t :=
  ⟨by rw [h.rest], h.card, h.link, fun u => by rw [h.unit]; exact .refl _⟩

theorem StreamFrame.event {s t : State} (h : StreamFrame s t) : EventFrame s t where
  rest := by rw [h.rest]
  card := by rw [h.rest]
  link := by rw [h.rest]; exact .refl _
  units := fun u => (h.units u).head

theorem ite_eventFrame {p : Prop} [Decidable p] {s a b : State} (h : EventFrame s a) (k : EventFrame s b) :
    EventFrame s (if p then a else b) := by
  split
  · exact h
  · exact k

theorem foldl_eventFrame {α : Type} (g : State → α → State) (h : ∀ s x, EventFrame s (g s x)) (xs : List α)
    (s : State) : EventFrame s (xs.foldl g s) := by
  induction xs generalizing s with
  | nil => exact .refl s
  | cons x xs ih => exact (h s x).trans (ih _)

theorem mapWcu_eventFrame (s : State) (g : Wcu → Wcu) : EventFrame s (s.mapWcu g) :=
  ⟨rfl, rfl, LinkFrame.refl _, fun _ => .refl _⟩

theorem report_eventFrame (s : State) (r : Report) : EventFrame s (s.report r) := (report_frame s r).event

theorem judge_frame (s : State) (f : Format) (w : Window) : EventFrame s (s.judge f w) := by
  unfold State.judge
  simp only []
  split
  · exact report_eventFrame ..
  · exact (report_eventFrame ..).trans (handCapture_frame ..).event

theorem closeCapture_frame (s : State) (w : Window) : EventFrame s (s.closeCapture w) := by
  unfold State.closeCapture
  split
  · exact report_eventFrame ..
  · split
    · exact .refl s
    · exact judge_frame ..
  · exact .refl s

/-- R132: with no eject in the phase HOLD, the close of a window does nothing to one. -/
theorem leaveHold_noHold (s : State) (h : NoHold s) : s.leaveHold = s := by
  unfold State.leaveHold
  split
  · rfl
  · rename_i r e
    rw [if_neg (h r e)]

theorem noHold_congr {s t : State} (h : NoHold s) (e : t.eject = s.eject) : NoHold t := by
  unfold NoHold at *
  rw [e]
  exact h

theorem closeWindow_frame (s : State) (h : NoHold s) : EventFrame s s.closeWindow := by
  unfold State.closeWindow
  split
  · exact .refl s
  · rename_i w _
    have k := (closeCapture_frame s w).trans (mapWcu_eventFrame _ Wcu.closed)
    have n : NoHold ((s.closeCapture w).mapWcu Wcu.closed) := noHold_congr h k.eject
    simp only []
    rw [leaveHold_noHold _ n]
    exact ite_eventFrame k k

theorem openWindow_frame (s : State) (u : DriveId) : EventFrame s (s.openWindow u) := by
  unfold State.openWindow
  split
  · exact .refl s
  · simp only []
    exact ite_eventFrame ((mapWcu_eventFrame ..).trans (report_eventFrame ..)) (mapWcu_eventFrame ..)

theorem gateEdge_frame (s : State) : EventFrame s s.gateEdge := by
  unfold State.gateEdge
  split
  · exact .refl s
  · exact ite_eventFrame (openWindow_frame ..) (.refl s)

theorem followWindow_frame (old s : State) (h : NoHold s) : EventFrame s (State.followWindow old s) :=
  ite_eventFrame (closeWindow_frame s h) (.refl s)

theorem setConflict_frame (s : State) (c : Conflict) : EventFrame s { s with conflict := c } :=
  ⟨rfl, rfl, LinkFrame.refl _, fun _ => .refl _⟩

theorem followConflict_frame (s : State) (closed : Bool) : EventFrame s (s.followConflict closed) := by
  unfold State.followConflict
  split
  · split
    · exact .refl s
    · exact (setConflict_frame ..).trans (report_eventFrame ..)
  · exact setConflict_frame ..

theorem setUnit_eventFrame (s : State) (u : DriveId) (x : UnitState) (h : HeadKept (s.unit u) x) :
    EventFrame s (s.setUnit u x) := by
  refine ⟨rfl, rfl, LinkFrame.refl _, fun v => ?_⟩
  rw [unit_setUnit]
  split
  · rename_i e
    subst e
    exact h
  · exact .refl _

theorem followRotation_frame (old s : State) (u : DriveId) : EventFrame s (State.followRotation old s u) := by
  unfold State.followRotation
  split
  · exact setUnit_eventFrame _ _ _ (.refl _)
  · exact setUnit_eventFrame _ _ _ (.refl _)
  · exact .refl s

theorem firstArrival_frame (old s : State) (u : DriveId) : EventFrame s (State.firstArrival old s u) :=
  ite_eventFrame (retryFill_frame ..).event (.refl s)

theorem followGate_frame (old s : State) : EventFrame s (State.followGate old s) :=
  ite_eventFrame (gateEdge_frame ..) (.refl s)

/-- The motors follow first (R118). -/
def motorsFollowed (old s : State) : State := driveIds.foldl (State.followMotor old) s

theorem MotorFrame.trans {s t x : State} (h : MotorFrame s t) (k : MotorFrame t x) : MotorFrame s x where
  rest := by rw [k.rest, h.rest]
  units := fun u => by
    have e := k.units u
    rw [h.units u] at e
    exact e

theorem motorsFollowed_frame (old s : State) : MotorFrame s (motorsFollowed old s) :=
  (followMotor_frame old s 0).trans (followMotor_frame old _ 1)

/-- What a reaction leaves as it is once the motors have followed, while no eject is in the phase HOLD: this says of
every reaction what it can do outside the cache, the Write Capture Unit, the read streams and the reports. -/
theorem react_rest (old s : State) (h : NoHold s) : EventFrame (motorsFollowed old s) (react old s) := by
  have e : (motorsFollowed old s).eject = s.eject := by rw [(motorsFollowed_frame old s).rest]
  have n : NoHold (motorsFollowed old s) := noHold_congr h e
  unfold react
  simp only []
  refine EventFrame.trans ?_ (takeModes_frame old _).event
  refine EventFrame.trans ?_ (followGate_frame old _)
  refine EventFrame.trans ?_ (foldl_eventFrame _ (fun t u => (trackMiss_frame old t u).event) driveIds _)
  refine EventFrame.trans ?_ (foldl_eventFrame _ (firstArrival_frame old) driveIds _)
  refine EventFrame.trans ?_ (followDemand_frame old _).event
  refine EventFrame.trans ?_ (foldl_eventFrame _ (fun t u => (flushOnStop_frame old t u).event) driveIds _)
  refine EventFrame.trans ?_ (foldl_eventFrame _ (followRotation_frame old) driveIds _)
  exact (followWindow_frame old _ n).trans (followConflict_frame ..)

/-- What a reaction leaves as it is for the management side, while no eject is in the phase HOLD. -/
theorem react_management (old s : State) (h : NoHold s) :
    ManagementSame s (react old s) ∧ (∀ u, HeadSame s (react old s) u) ∧ (react old s).pins = s.pins ∧
      (react old s).now = s.now ∧ (react old s).moment = s.moment := by
  have m := motorsFollowed_frame old s
  have k := react_rest old s h
  have mu : ∀ u, ((motorsFollowed old s).unit u).media = (s.unit u).media ∧
      ((motorsFollowed old s).unit u).mounted = (s.unit u).mounted ∧
      ((motorsFollowed old s).unit u).cylinder = (s.unit u).cylinder ∧
      ((motorsFollowed old s).unit u).lastDir = (s.unit u).lastDir ∧
      ((motorsFollowed old s).unit u).latch = (s.unit u).latch ∧
      ((motorsFollowed old s).unit u).settleDue = (s.unit u).settleDue := by
    intro u
    rw [m.units u]
    exact ⟨rfl, rfl, rfl, rfl, rfl, rfl⟩
  have ml : (motorsFollowed old s).link = s.link := by rw [m.rest]
  have lk := k.link
  rw [ml] at lk
  refine ⟨⟨⟨?_, ?_, ?_, ?_, ?_, fun u => ⟨?_, ?_⟩, ?_, ?_, ?_, ?_, lk.reports⟩, ?_, ?_⟩, fun u => ⟨?_, ?_, ?_, ?_⟩,
    ?_, ?_, ?_⟩
  · rw [k.pending, m.rest]
  · rw [k.profile, m.rest]
  · rw [k.formats, m.rest]
  · rw [k.slots, m.rest]
  · rw [k.eject, m.rest]
  · rw [k.units u]; exact (mu u).1
  · rw [k.units u]; exact (mu u).2.1
  · rw [lk.rest]
  · rw [lk.rest]
  · rw [lk.rest]
  · rw [k.card, m.rest]
  · rw [k.executing, m.rest]
  · rw [lk.rest]
  · rw [k.units u]; exact (mu u).2.2.1
  · rw [k.units u]; exact (mu u).2.2.2.1
  · rw [k.units u]; exact (mu u).2.2.2.2.1
  · rw [k.units u]; exact (mu u).2.2.2.2.2
  · rw [k.pins, m.rest]
  · rw [k.now, m.rest]
  · rw [k.moment, m.rest]

/-- R116: a reaction's motors are those that have followed their signals. -/
theorem react_motor (old s : State) (h : NoHold s) (u : DriveId) :
    ((react old s).unit u).motor = ((motorsFollowed old s).unit u).motor ∧
      ((react old s).unit u).spinUpDue = ((motorsFollowed old s).unit u).spinUpDue := by
  have k := (react_rest old s h).units u
  unfold HeadKept at k
  rw [k]
  exact ⟨rfl, rfl⟩

/-- R116: a unit whose motor signal has not changed keeps its motor. -/
theorem motorsFollowed_same (old s : State) (u : DriveId) (h : old.motorOn u = s.motorOn u) :
    (motorsFollowed old s).unit u = s.unit u := by
  have step : ∀ (x : State) (v : DriveId), x.motorOn u = s.motorOn u → (State.followMotor old x v).unit u = x.unit u := by
    intro x v e
    by_cases w : u = v
    · subst w
      unfold State.followMotor
      rw [h, e]
      cases s.motorOn u <;> rfl
    · exact followMotor_other old x w
  have keep : (State.followMotor old s 0).motorOn u = s.motorOn u := by
    have f := followMotor_frame old s 0
    have hp : (State.followMotor old s 0).profile = s.profile := by rw [f.rest]
    have hi : (State.followMotor old s 0).pins = s.pins := by rw [f.rest]
    simp only [State.motorOn, State.enabled, State.motorSource, State.level, State.pinOf, hp, hi]
  show (State.followMotor old (State.followMotor old s 0) 1).unit u = s.unit u
  rw [step _ 1 keep, step s 0 rfl]

end Sys2Proof.Machine
end

