-- ==== Sys2Proof/WellFormed.lean ====
section
/-! DEFINITION. What a command must satisfy to be one that the outside can send: the bounds of the
link's frames, the length of a card block, and the codes that name no command or frame. -/

namespace Sys2Proof

/-- The codes that name a command (R166). -/
def knownCode (code : Byte) : Bool := 1 ≤ code.toNat && code.toNat ≤ 15

/-- The kind bytes that name a frame (R155). -/
def knownKind (kind : Byte) : Bool := kind.toNat ≤ 3

/-- A parameter block that a COMMAND frame can carry (R158). -/
def paramsFit (params : List Byte) : Bool := params.length ≤ Config.maxParams

/-- The well-formed commands. -/
def Instr.wellFormed : Instr → Bool
  | .cardInfo _ ps => paramsFit ps
  | .cardRead _ ps => paramsFit ps
  | .cardWrite _ ps => paramsFit ps
  | .defineFormat _ ps => paramsFit ps
  | .eject _ ps => paramsFit ps
  | .flush _ ps => paramsFit ps
  | .identify _ ps => paramsFit ps
  | .loadSlot _ ps => paramsFit ps
  | .mount _ ps => paramsFit ps
  | .queryCache _ ps => paramsFit ps
  | .queryUnit _ ps => paramsFit ps
  | .reset _ ps => paramsFit ps
  | .setProfile _ ps => paramsFit ps
  | .setProtect _ ps => paramsFit ps
  | .unloadSlot _ ps => paramsFit ps
  | .badCommand code _ ps => !knownCode code && paramsFit ps
  | .status _ => true
  | .command _ => true
  | .fetchReply _ => true
  | .fetchReports _ => true
  | .unknownFrameKind kind _ => !knownKind kind
  | .mselNegated => true
  | .commandStart => true
  | .resetTakesEffect => true
  | .hardwareReset _ _ _ => true
  | .selectChange _ _ => true
  | .motorAssert _ => true
  | .motorNegate _ => true
  | .spinUpExpiry _ => true
  | .step _ => true
  | .sideChange _ => true
  | .wgateAssert => true
  | .wgateNegate => true
  | .writeTransition _ => true
  | .indexArrival _ => true
  | .indexRegionEnd _ => true
  | .settleExpiry _ => true
  | .resumeHoldEnd _ => true
  | .ejectHoldExpiry => true
  | .writeBackDelayExpiry _ => true
  | .demandFillResumed => true
  | .prefetchActedOn => true
  | .cardDetect => true
  | .cardRemoval => true
  | .lockSwitchChange _ => true
  | .startupExchangeAnswer _ _ _ _ _ => true
  | .exchangeTimeout => true
  | .startupTimeout => true
  | .arbiterGrant => true
  | .readPhaseEnd data _ => data.length == Config.blockBytes
  | .writeCommandAnswer _ => true
  | .dataResponse _ => true
  | .busyEnd => true
  | .noResponse => true
  | .busyTimeout => true
  | .unitRelease => true
  | .bitBoundary _ => true
  | .cdetChangeWhileAbsent _ => true
  | .cardBlockBegins => true
  | .lastByteSent => true

end Sys2Proof
end

