-- ==== Sys2Proof/Laws/PerInstr.lean ====
section
/-! SUPPORT. What a well-formed command's bytes are bounded by, one lemma for each command (R145, R158). -/

namespace Sys2Proof.Laws

/-- The bytes that a command carries as one block: the parameters of a command of the Command Processor, or the data of
a card block. -/
def blockOf : Instr → List Byte
  | .cardInfo _ params => params
  | .cardRead _ params => params
  | .cardWrite _ params => params
  | .defineFormat _ params => params
  | .eject _ params => params
  | .flush _ params => params
  | .identify _ params => params
  | .loadSlot _ params => params
  | .mount _ params => params
  | .queryCache _ params => params
  | .queryUnit _ params => params
  | .reset _ params => params
  | .setProfile _ params => params
  | .setProtect _ params => params
  | .unloadSlot _ params => params
  | .badCommand _ _ params => params
  | .status _ => []
  | .command _ => []
  | .fetchReply _ => []
  | .fetchReports _ => []
  | .unknownFrameKind _ _ => []
  | .mselNegated => []
  | .commandStart => []
  | .resetTakesEffect => []
  | .hardwareReset _ _ _ => []
  | .selectChange _ _ => []
  | .motorAssert _ => []
  | .motorNegate _ => []
  | .spinUpExpiry _ => []
  | .step _ => []
  | .sideChange _ => []
  | .wgateAssert => []
  | .wgateNegate => []
  | .writeTransition _ => []
  | .indexArrival _ => []
  | .indexRegionEnd _ => []
  | .settleExpiry _ => []
  | .resumeHoldEnd _ => []
  | .ejectHoldExpiry => []
  | .writeBackDelayExpiry _ => []
  | .demandFillResumed => []
  | .prefetchActedOn => []
  | .cardDetect => []
  | .cardRemoval => []
  | .lockSwitchChange _ => []
  | .startupExchangeAnswer _ _ _ _ _ => []
  | .exchangeTimeout => []
  | .startupTimeout => []
  | .arbiterGrant => []
  | .readPhaseEnd data _ => data
  | .writeCommandAnswer _ => []
  | .dataResponse _ => []
  | .busyEnd => []
  | .noResponse => []
  | .busyTimeout => []
  | .unitRelease => []
  | .bitBoundary _ => []
  | .cdetChangeWhileAbsent _ => []
  | .cardBlockBegins => []
  | .lastByteSent => []

/-- A well-formed command carries at most 520 bytes as one block. -/
def LinkBounds.Statement (i : Instr) : Prop := i.wellFormed = true → (blockOf i).length ≤ 520

theorem LinkBounds.cardInfo (tag : Byte) (params : List Byte) : LinkBounds.Statement (.cardInfo tag params) := of_decide_eq_true

theorem LinkBounds.cardRead (tag : Byte) (params : List Byte) : LinkBounds.Statement (.cardRead tag params) := of_decide_eq_true

theorem LinkBounds.cardWrite (tag : Byte) (params : List Byte) : LinkBounds.Statement (.cardWrite tag params) := of_decide_eq_true

theorem LinkBounds.defineFormat (tag : Byte) (params : List Byte) :
    LinkBounds.Statement (.defineFormat tag params) := of_decide_eq_true

theorem LinkBounds.eject (tag : Byte) (params : List Byte) : LinkBounds.Statement (.eject tag params) := of_decide_eq_true

theorem LinkBounds.flush (tag : Byte) (params : List Byte) : LinkBounds.Statement (.flush tag params) := of_decide_eq_true

theorem LinkBounds.identify (tag : Byte) (params : List Byte) : LinkBounds.Statement (.identify tag params) := of_decide_eq_true

theorem LinkBounds.loadSlot (tag : Byte) (params : List Byte) : LinkBounds.Statement (.loadSlot tag params) := of_decide_eq_true

theorem LinkBounds.mount (tag : Byte) (params : List Byte) : LinkBounds.Statement (.mount tag params) := of_decide_eq_true

theorem LinkBounds.queryCache (tag : Byte) (params : List Byte) : LinkBounds.Statement (.queryCache tag params) := of_decide_eq_true

theorem LinkBounds.queryUnit (tag : Byte) (params : List Byte) : LinkBounds.Statement (.queryUnit tag params) := of_decide_eq_true

theorem LinkBounds.reset (tag : Byte) (params : List Byte) : LinkBounds.Statement (.reset tag params) := of_decide_eq_true

theorem LinkBounds.setProfile (tag : Byte) (params : List Byte) : LinkBounds.Statement (.setProfile tag params) := of_decide_eq_true

theorem LinkBounds.setProtect (tag : Byte) (params : List Byte) : LinkBounds.Statement (.setProtect tag params) := of_decide_eq_true

theorem LinkBounds.unloadSlot (tag : Byte) (params : List Byte) : LinkBounds.Statement (.unloadSlot tag params) := of_decide_eq_true

theorem LinkBounds.badCommand (code tag : Byte) (params : List Byte) :
    LinkBounds.Statement (.badCommand code tag params) := by
  intro h
  have k := (Bool.and_eq_true_iff.mp h).2
  exact of_decide_eq_true k

theorem LinkBounds.status (more : Nat) : LinkBounds.Statement (.status more) := fun _ => Nat.zero_le _

theorem LinkBounds.command (bytes : List Byte) : LinkBounds.Statement (.command bytes) := fun _ => Nat.zero_le _

theorem LinkBounds.fetchReply (more : Nat) : LinkBounds.Statement (.fetchReply more) := fun _ => Nat.zero_le _

theorem LinkBounds.fetchReports (bytes : List Byte) :
    LinkBounds.Statement (.fetchReports bytes) := fun _ => Nat.zero_le _

theorem LinkBounds.unknownFrameKind (kind : Byte) (more : Nat) :
    LinkBounds.Statement (.unknownFrameKind kind more) := fun _ => Nat.zero_le _

theorem LinkBounds.mselNegated : LinkBounds.Statement .mselNegated := fun _ => Nat.zero_le _

theorem LinkBounds.commandStart : LinkBounds.Statement .commandStart := fun _ => Nat.zero_le _

theorem LinkBounds.resetTakesEffect : LinkBounds.Statement .resetTakesEffect := fun _ => Nat.zero_le _

theorem LinkBounds.hardwareReset (pins : Option (BitVec 9)) (cdet clsw : Bool) :
    LinkBounds.Statement (.hardwareReset pins cdet clsw) := fun _ => Nat.zero_le _

theorem LinkBounds.selectChange (u : DriveId) (level : Bool) :
    LinkBounds.Statement (.selectChange u level) := fun _ => Nat.zero_le _

theorem LinkBounds.motorAssert (u : DriveId) : LinkBounds.Statement (.motorAssert u) := fun _ => Nat.zero_le _

theorem LinkBounds.motorNegate (u : DriveId) : LinkBounds.Statement (.motorNegate u) := fun _ => Nat.zero_le _

theorem LinkBounds.spinUpExpiry (u : DriveId) : LinkBounds.Statement (.spinUpExpiry u) := fun _ => Nat.zero_le _

theorem LinkBounds.step (inward : Bool) : LinkBounds.Statement (.step inward) := fun _ => Nat.zero_le _

theorem LinkBounds.sideChange (level : Bool) : LinkBounds.Statement (.sideChange level) := fun _ => Nat.zero_le _

theorem LinkBounds.wgateAssert : LinkBounds.Statement .wgateAssert := fun _ => Nat.zero_le _

theorem LinkBounds.wgateNegate : LinkBounds.Statement .wgateNegate := fun _ => Nat.zero_le _

theorem LinkBounds.writeTransition (ticks : Nat) :
    LinkBounds.Statement (.writeTransition ticks) := fun _ => Nat.zero_le _

theorem LinkBounds.indexArrival (u : DriveId) : LinkBounds.Statement (.indexArrival u) := fun _ => Nat.zero_le _

theorem LinkBounds.indexRegionEnd (u : DriveId) : LinkBounds.Statement (.indexRegionEnd u) := fun _ => Nat.zero_le _

theorem LinkBounds.settleExpiry (u : DriveId) : LinkBounds.Statement (.settleExpiry u) := fun _ => Nat.zero_le _

theorem LinkBounds.resumeHoldEnd (u : DriveId) : LinkBounds.Statement (.resumeHoldEnd u) := fun _ => Nat.zero_le _

theorem LinkBounds.ejectHoldExpiry : LinkBounds.Statement .ejectHoldExpiry := fun _ => Nat.zero_le _

theorem LinkBounds.writeBackDelayExpiry (b : BufferId) :
    LinkBounds.Statement (.writeBackDelayExpiry b) := fun _ => Nat.zero_le _

theorem LinkBounds.demandFillResumed : LinkBounds.Statement .demandFillResumed := fun _ => Nat.zero_le _

theorem LinkBounds.prefetchActedOn : LinkBounds.Statement .prefetchActedOn := fun _ => Nat.zero_le _

theorem LinkBounds.cardDetect : LinkBounds.Statement .cardDetect := fun _ => Nat.zero_le _

theorem LinkBounds.cardRemoval : LinkBounds.Statement .cardRemoval := fun _ => Nat.zero_le _

theorem LinkBounds.lockSwitchChange (level : Bool) :
    LinkBounds.Statement (.lockSwitchChange level) := fun _ => Nat.zero_le _

theorem LinkBounds.startupExchangeAnswer (good error ready blocks512 : Bool) (blocks : Nat) :
    LinkBounds.Statement (.startupExchangeAnswer good error ready blocks512 blocks) := fun _ => Nat.zero_le _

theorem LinkBounds.exchangeTimeout : LinkBounds.Statement .exchangeTimeout := fun _ => Nat.zero_le _

theorem LinkBounds.startupTimeout : LinkBounds.Statement .startupTimeout := fun _ => Nat.zero_le _

theorem LinkBounds.arbiterGrant : LinkBounds.Statement .arbiterGrant := fun _ => Nat.zero_le _

theorem LinkBounds.readPhaseEnd (data : List Byte) (check : Word16) :
    LinkBounds.Statement (.readPhaseEnd data check) := by
  intro h
  have k : data.length = 512 := by simpa [Instr.wellFormed, Config.blockBytes] using h
  simp [blockOf, k]

theorem LinkBounds.writeCommandAnswer (accepted : Bool) :
    LinkBounds.Statement (.writeCommandAnswer accepted) := fun _ => Nat.zero_le _

theorem LinkBounds.dataResponse (r : DataResponse) : LinkBounds.Statement (.dataResponse r) := fun _ => Nat.zero_le _

theorem LinkBounds.busyEnd : LinkBounds.Statement .busyEnd := fun _ => Nat.zero_le _

theorem LinkBounds.noResponse : LinkBounds.Statement .noResponse := fun _ => Nat.zero_le _

theorem LinkBounds.busyTimeout : LinkBounds.Statement .busyTimeout := fun _ => Nat.zero_le _

theorem LinkBounds.unitRelease : LinkBounds.Statement .unitRelease := fun _ => Nat.zero_le _

theorem LinkBounds.bitBoundary (u : DriveId) : LinkBounds.Statement (.bitBoundary u) := fun _ => Nat.zero_le _

theorem LinkBounds.cdetChangeWhileAbsent (level : Bool) :
    LinkBounds.Statement (.cdetChangeWhileAbsent level) := fun _ => Nat.zero_le _

theorem LinkBounds.cardBlockBegins : LinkBounds.Statement .cardBlockBegins := fun _ => Nat.zero_le _

theorem LinkBounds.lastByteSent : LinkBounds.Statement .lastByteSent := fun _ => Nat.zero_le _

end Sys2Proof.Laws
end

