-- ==== Sys2Proof/Laws/Rotation.lean ====
section
/-! SUPPORT. How a turning unit follows the clock (R20, R29): what the operations that bring it to a bit can change, and
which bit has begun by a moment. -/

namespace Sys2Proof.Machine

/-! ### Bits and moments -/

/-- R20: a bit has begun by a moment exactly when it is not after the last bit begun by then. -/
theorem bitTick_le_iff (f : Format) (h : 0 < f.rate) (j d : Nat) : f.bitTick j ≤ d ↔ j ≤ f.bitBegun d := by
  have r : 0 < f.rate * 1000 := by omega
  have p : 0 < (d + 1) * (f.rate * 1000) := Nat.mul_pos (Nat.succ_pos d) r
  unfold Format.bitTick Format.bitBegun
  rw [← Nat.lt_succ_iff, Nat.div_lt_iff_lt_mul r, Nat.le_div_iff_mul_le (by decide), Nat.succ_eq_add_one]
  omega

/-- R20: bit 0 begins with the rotation. -/
theorem bitTick_zero (f : Format) : f.bitTick 0 = 0 := by simp [Format.bitTick]

/-- R20: bits begin in their order. -/
theorem bitTick_mono (f : Format) {i j : Nat} (h : i ≤ j) : f.bitTick i ≤ f.bitTick j :=
  Nat.div_le_div_right (Nat.mul_le_mul_right _ h)

/-! ### What following the clock can change -/

theorem passBits_frame (s : State) (u : DriveId) (n : Nat) : EventFrame s (s.passBits u n) := by
  unfold State.passBits
  split
  · exact .refl s
  · exact ite_eventFrame (.refl s)
      (ite_eventFrame (setUnit_eventFrame _ _ _ rfl) (setUnit_eventFrame _ _ _ rfl))

theorem runToBit_frame (s : State) (u : DriveId) (n : Nat) : EventFrame s (s.runToBit u n) := by
  unfold State.runToBit
  split
  · exact .refl s
  · simp only []
    have h := (passBits_frame s u n).trans
      (setUnit_eventFrame (s.passBits u n) u { (s.passBits u n).unit u with bitCount := n } rfl)
    have k := ite_eventFrame (p := (s.unit u).bitCount / Format.revolution ‹_› < n / Format.revolution ‹_›)
      (h.trans (retryFill_frame _ u).event) h
    exact ite_eventFrame (k.trans (emitBit_frame _ u).event) (.refl s)

theorem turnTo_frame (s : State) (u : DriveId) (t : Nat) : EventFrame s (s.turnTo u t) := by
  unfold State.turnTo
  split
  · split
    · exact .refl s
    · exact runToBit_frame ..
  · exact .refl s

/-- The clock comes to a moment, and the units follow it: nothing else but the fills retried at index arrivals. -/
theorem runTo_frame (s : State) (m : Nat) : EventFrame { s with now := max s.now m } (s.runTo m) := by
  unfold State.runTo
  exact ite_eventFrame ((turnTo_frame ..).trans (turnTo_frame ..)) ((turnTo_frame ..).trans (turnTo_frame ..))

@[simp] theorem runTo_now (s : State) (m : Nat) : (s.runTo m).now = max s.now m := (runTo_frame s m).now

theorem beginBit_frame (s : State) (u : DriveId) (n : Nat) {f : Format} (h : s.format u = some f) :
    EventFrame { s with now := max s.now ((s.unit u).rotationStart + f.bitTick n) } (s.beginBit u n) := by
  unfold State.beginBit
  rw [h]
  exact (turnTo_frame ..).trans (runToBit_frame ..)

/-! ### Where a unit comes to -/

theorem emitBit_bitCount (s : State) (u v : DriveId) : ((s.emitBit u).unit v).bitCount = (s.unit v).bitCount := by
  rw [(emitBit_frame s u).units v]

/-- R20: a unit that is brought to a bit stands at it, or where it stood when it had come so far. -/
theorem runToBit_bitCount (s : State) (u : DriveId) (n : Nat) {f : Format} (h : s.format u = some f) :
    ((s.runToBit u n).unit u).bitCount = max (s.unit u).bitCount n := by
  unfold State.runToBit
  rw [h]
  simp only []
  split
  · rename_i lt
    rw [emitBit_bitCount]
    split
    · rw [(retryFill_frame _ u).unit]; simp; omega
    · simp; omega
  · omega

/-- R20: a turning unit that follows the clock to a moment has come to the last bit begun by then. -/
theorem turnTo_bitCount (s : State) (u : DriveId) (t : Nat) {f : Format} (r : s.rotating u = true)
    (h : s.format u = some f) :
    ((s.turnTo u t).unit u).bitCount = max (s.unit u).bitCount (f.bitBegun (t - (s.unit u).rotationStart)) := by
  unfold State.turnTo
  rw [r, h]
  exact runToBit_bitCount s u _ h

/-- R29, R31: a unit that does not turn stays as it is. -/
theorem turnTo_still (s : State) (u : DriveId) (t : Nat) (r : s.rotating u = false) : s.turnTo u t = s := by
  unfold State.turnTo
  rw [r]
  rfl

end Sys2Proof.Machine
end

