-- ==== Sys2Proof/Laws/Wide.lean ====
section
/-! SUPPORT. What every operation of the Media Manager and every reaction leaves as it is, an eject in progress or not:
at most one command ends, the report queue only grows at its back, and no head moves. -/

namespace Sys2Proof.Machine

open Sys2Proof.Safety

/-- The executing command goes on, or it ends with one reply. -/
def EndsAtMostOne (s t : State) : Prop :=
  (t.executing = s.executing ∧ t.link.replies = s.link.replies) ∨
    ∃ e r p, s.executing = some e ∧ t.executing = none ∧
      t.link.replies = s.link.replies ++ [⟨e.code, e.tag, r, p⟩]

theorem EndsAtMostOne.refl (s : State) : EndsAtMostOne s s := .inl ⟨rfl, rfl⟩

theorem EndsAtMostOne.trans {s t x : State} (h : EndsAtMostOne s t) (k : EndsAtMostOne t x) : EndsAtMostOne s x := by
  rcases h with ⟨he, hr⟩ | ⟨e, r, p, he, hn, hr⟩
  · rcases k with ⟨ke, kr⟩ | ⟨e, r, p, ke, kn, kr⟩
    · exact .inl ⟨ke.trans he, kr.trans hr⟩
    · exact .inr ⟨e, r, p, he ▸ ke, kn, by rw [kr, hr]⟩
  · rcases k with ⟨ke, kr⟩ | ⟨e', r', p', ke, kn, kr⟩
    · exact .inr ⟨e, r, p, he, ke.trans hn, kr.trans hr⟩
    · rw [hn] at ke
      cases ke

/-- What every operation of the Media Manager and every reaction leaves as it is. -/
structure WideFrame (s t : State) : Prop where
  rest : t =
    { s with
      choices := t.choices, conflict := t.conflict, units := t.units, buffers := t.buffers, cache := t.cache
      wcu := t.wcu, slots := t.slots, eject := t.eject, executing := t.executing, card := t.card, link := t.link }
  card : t.card = { s.card with requests := t.card.requests }
  link : t.link = { s.link with replies := t.link.replies, reports := t.link.reports, lost := t.link.lost, frame := t.link.frame }
  reports : s.link.reports <+: t.link.reports
  bounded : s.link.reports.length ≤ 16 → t.link.reports.length ≤ 16
  ends : EndsAtMostOne s t
  heads : ∀ u, (t.unit u).cylinder = (s.unit u).cylinder ∧ (t.unit u).lastDir = (s.unit u).lastDir ∧
    (t.unit u).settleDue = (s.unit u).settleDue

theorem WideFrame.refl (s : State) : WideFrame s s :=
  ⟨rfl, rfl, rfl, List.prefix_refl _, id, .refl s, fun _ => ⟨rfl, rfl, rfl⟩⟩

theorem WideFrame.trans {s t x : State} (h : WideFrame s t) (k : WideFrame t x) : WideFrame s x where
  rest := by rw [k.rest, h.rest]
  card := by rw [k.card, h.card]
  link := by rw [k.link, h.link]
  reports := h.reports.trans k.reports
  bounded := fun b => k.bounded (h.bounded b)
  ends := h.ends.trans k.ends
  heads := fun u =>
    ⟨(k.heads u).1.trans (h.heads u).1, (k.heads u).2.1.trans (h.heads u).2.1,
      (k.heads u).2.2.trans (h.heads u).2.2⟩

theorem WideFrame.pending {s t : State} (h : WideFrame s t) : t.pending = s.pending := by rw [h.rest]

theorem WideFrame.now {s t : State} (h : WideFrame s t) : t.now = s.now := by rw [h.rest]

theorem WideFrame.moment {s t : State} (h : WideFrame s t) : t.moment = s.moment := by rw [h.rest]

theorem WideFrame.resetPin {s t : State} (h : WideFrame s t) : t.resetPin = s.resetPin := by rw [h.rest]

theorem WideFrame.pins {s t : State} (h : WideFrame s t) : t.pins = s.pins := by rw [h.rest]

theorem WideFrame.profile {s t : State} (h : WideFrame s t) : t.profile = s.profile := by rw [h.rest]

theorem WideFrame.formats {s t : State} (h : WideFrame s t) : t.formats = s.formats := by rw [h.rest]

theorem EventFrame.wide {s t : State} (h : EventFrame s t) : WideFrame s t where
  rest := by rw [h.rest]
  card := h.card
  link := by rw [h.link.rest]
  reports := h.link.reports
  bounded := h.link.bounded
  ends := .inl ⟨h.executing, by rw [h.link.rest]⟩
  heads := fun u => by rw [h.units u]; exact ⟨rfl, rfl, rfl⟩

theorem CacheFrame.wide {s t : State} (h : CacheFrame s t) : WideFrame s t := h.event.wide

theorem MotorFrame.wide {s t : State} (h : MotorFrame s t) : WideFrame s t where
  rest := by rw [h.rest]
  card := by rw [h.rest]
  link := by rw [h.rest]
  reports := by rw [h.rest]
  bounded := by rw [h.rest]; exact id
  ends := .inl ⟨by rw [h.rest], by rw [h.rest]⟩
  heads := fun u => by rw [h.units u]; exact ⟨rfl, rfl, rfl⟩

theorem ite_wideFrame {p : Prop} [Decidable p] {s a b : State} (h : WideFrame s a) (k : WideFrame s b) :
    WideFrame s (if p then a else b) := by
  split
  · exact h
  · exact k

theorem endCommand_wide (s : State) (r : ResultCode) (p : List Byte) : WideFrame s (s.endCommand r p) := by
  unfold State.endCommand
  split
  · exact .refl s
  · rename_i e he
    exact ⟨rfl, rfl, rfl, List.prefix_refl _, id, .inr ⟨e, r, p, he, rfl, rfl⟩,
      fun _ => ⟨rfl, rfl, rfl⟩⟩

theorem setEject_wide (s : State) (r : Option EjectRecord) : WideFrame s (s.setEject r) :=
  ⟨rfl, rfl, rfl, List.prefix_refl _, id, .inl ⟨rfl, rfl⟩, fun _ => ⟨rfl, rfl, rfl⟩⟩

theorem setSlot_wide (s : State) (n : SlotId) (x : Slot) : WideFrame s (s.setSlot n x) :=
  ⟨rfl, rfl, rfl, List.prefix_refl _, id, .inl ⟨rfl, rfl⟩, fun _ => ⟨rfl, rfl, rfl⟩⟩

theorem setUnit_wide (s : State) (u : DriveId) (x : UnitState) (hc : x.cylinder = (s.unit u).cylinder)
    (hd : x.lastDir = (s.unit u).lastDir) (hs : x.settleDue = (s.unit u).settleDue) :
    WideFrame s (s.setUnit u x) := by
  refine ⟨rfl, rfl, rfl, List.prefix_refl _, id, .inl ⟨rfl, rfl⟩, fun v => ?_⟩
  rw [unit_setUnit]
  split
  · rename_i e
    subst e
    exact ⟨hc, hd, hs⟩
  · exact ⟨rfl, rfl, rfl⟩

theorem setMedia_wide (s : State) (u : DriveId) (m : Media) (n : Option SlotId) : WideFrame s (s.setMedia u m n) :=
  setUnit_wide _ _ _ rfl rfl rfl

theorem setLatch_wide (s : State) (u : DriveId) : WideFrame s (s.setLatch u) := setUnit_wide _ _ _ rfl rfl rfl

theorem report_wide (s : State) (r : Report) : WideFrame s (s.report r) := (report_frame s r).wide

theorem insertMedia_wide (s : State) (u : DriveId) (n : SlotId) : WideFrame s (s.insertMedia u n) :=
  ((setMedia_wide ..).trans (setSlot_wide ..)).trans (report_wide ..)

theorem completeEject_wide (s : State) (r : EjectRecord) : WideFrame s (s.completeEject r) := by
  unfold State.completeEject
  simp only []
  refine ((WideFrame.trans ?_ (report_wide ..)).trans (setEject_wide ..)).trans (endCommand_wide ..)
  have h := (releaseUnit_frame s r.unit).wide.trans (setMedia_wide (s.releaseUnit r.unit) r.unit .empty none)
  split
  · refine WideFrame.trans ?_ (report_wide ..)
    split
    · exact h
    · exact h.trans (setSlot_wide ..)
  · split
    · exact h
    · exact h.trans (setSlot_wide ..)

theorem tryRelease_wide (s : State) (r : EjectRecord) : WideFrame s (s.tryRelease r) :=
  ite_wideFrame ((withdrawUnit_frame ..).wide.trans (setEject_wide ..)) (completeEject_wide ..)

theorem refuseEject_wide (s : State) (r : EjectRecord) : WideFrame s (s.refuseEject r) :=
  (((setMedia_wide ..).trans (setEject_wide ..)).trans (report_wide ..)).trans (endCommand_wide ..)

theorem releaseNow_wide (s : State) : WideFrame s s.releaseNow := by
  unfold State.releaseNow
  split
  · exact .refl s
  · exact ite_wideFrame (completeEject_wide ..) (.refl s)

theorem flushFailed_wide (s : State) (e : Option (Nat × Result)) : WideFrame s (s.flushFailed e) :=
  endCommand_wide ..

theorem settleService_wide (fuel : Nat) (s : State) : WideFrame s (State.settleService fuel s) := by
  induction fuel generalizing s with
  | zero => exact .refl s
  | succ fuel ih =>
    unfold State.settleService
    split
    · exact .refl s
    · rename_i v _
      have c := (setCache_frame s { s.cache with service := none }).wide
      have again := (c.trans (startService_frame _ v.units).wide).trans (ih _)
      split
      · exact .refl s
      · simp only []
        split
        · split
          · exact c.trans (refuseEject_wide ..)
          · split
            · exact again
            · exact c.trans (tryRelease_wide ..)
        · split
          · exact c.trans (flushFailed_wide ..)
          · split
            · exact again
            · exact c.trans (endCommand_wide ..)

theorem requestService_wide (s : State) (units : List DriveId) : WideFrame s (s.requestService units) :=
  (startService_frame ..).wide.trans (settleService_wide ..)

theorem leaveHold_wide (s : State) : WideFrame s s.leaveHold := by
  unfold State.leaveHold
  split
  · exact .refl s
  · split
    · split
      · exact (setEject_wide ..).trans (requestService_wide ..)
      · exact tryRelease_wide ..
    · exact .refl s

theorem mapWcu_wide (s : State) (g : Wcu → Wcu) : WideFrame s (s.mapWcu g) := (mapWcu_eventFrame s g).wide

theorem beginEject_wide (s : State) (u : DriveId) (mode : EjectMode) : WideFrame s (s.beginEject u mode) := by
  unfold State.beginEject
  simp only []
  have h := (((setMedia_wide s u .ejecting (s.unit u).mounted).trans (setLatch_wide _ u)).trans
    (setEject_wide _ (some ⟨u, mode, .hold⟩))).trans (stopUnit_frame _ u).wide
  exact ite_wideFrame (h.trans (mapWcu_wide _ fun w => { w with ejectHoldDue := some _ })) (h.trans (leaveHold_wide _))

theorem closeWindow_wide (s : State) : WideFrame s s.closeWindow := by
  unfold State.closeWindow
  split
  · exact .refl s
  · rename_i w _
    have k := ((closeCapture_frame s w).trans (mapWcu_eventFrame _ Wcu.closed)).wide
    simp only []
    exact ite_wideFrame (k.trans (leaveHold_wide _)) k

/-- What every reaction leaves as it is. -/
theorem react_wide (old s : State) : WideFrame s (react old s) := by
  unfold react
  simp only []
  refine WideFrame.trans ?_ (takeModes_frame old _).event.wide
  refine WideFrame.trans ?_ (followGate_frame old _).wide
  refine WideFrame.trans ?_ (foldl_eventFrame _ (fun t u => (trackMiss_frame old t u).event) driveIds _).wide
  refine WideFrame.trans ?_ (foldl_eventFrame _ (firstArrival_frame old) driveIds _).wide
  refine WideFrame.trans ?_ (followDemand_frame old _).wide
  refine WideFrame.trans ?_ (foldl_eventFrame _ (fun t u => (flushOnStop_frame old t u).event) driveIds _).wide
  refine WideFrame.trans ?_ (foldl_eventFrame _ (followRotation_frame old) driveIds _).wide
  refine WideFrame.trans ?_ (followConflict_frame ..).wide
  exact (motorsFollowed_frame old s).wide.trans (ite_wideFrame (closeWindow_wide _) (.refl _))

/-- The frame of an event is that of its own change. -/
theorem event_wide (s : State) (g : State → State) (h : WideFrame s (g s)) : WideFrame s (s.event g) :=
  h.trans (react_wide s (g s))

end Sys2Proof.Machine
end

