-- ==== Sys2Proof/Tests/Slice0.lean ====
section
/-! SUPPORT. Tests of the part: the checks of well-formedness refuse, single steps answer what the manual's rules give,
and for each statement with hypotheses a state that meets them, at the ends of their ranges. -/

-- A thread for each test would ask for more memory than a build has.
set_option Elab.async false

namespace Sys2Proof.Tests

open Sys2Proof Sys2Proof.Machine Sys2Proof.Safety

/-! ### Small states -/

/-- What a step answers satisfies a test. -/
def after (o : Host.Outcome State Fault Refusal) (p : State → Bool) : Bool :=
  match o with
  | .next t => p t
  | _ => false

/-- A small format: MFM at 250 kbit/s and 300 rpm, 3 cylinders, 2 sides, 2 sectors of 128 bytes from number 1 on. -/
def tiny : Format := ⟨.mfm, 250, 300, 3, 2, 2, 0, 1, 1, 0, 10, true, 5, 4, []⟩

/-- The same in FM at 125 kbit/s. -/
def tinyFm : Format := { tiny with enc := .fm, rate := 125, indexMark := false }

/-- An image of eight card blocks from block 100 on. -/
def disk : SlotData := ⟨0, false, 0, [⟨100, 8⟩]⟩

/-- The track under the head of unit 0. -/
def track : Key := ⟨0, 0, 0⟩

/-- A READY card of 1,000 blocks. -/
def port : CardPort := { CardPort.reset with cdet := true, state := .ready, capacity := some 1000, power := true }

/-- A READY card, a DEFINED format and a LOADED slot. -/
def loaded : State :=
  { State.reset with
    formats := put State.reset.formats 0 (some tiny), slots := put State.reset.slots 0 (.loaded disk), card := port }

/-- Unit 0 with the slot MOUNTED, READY, selected and AT_SPEED, with its track in no buffer. -/
def drive : State :=
  { loaded with
    pins := 0xA0
    slots := put loaded.slots 0 (.mounted disk)
    units := put State.reset.units 0
      { UnitState.reset with media := .ready, mounted := some 0, motor := .atSpeed, mode := .filler } }

/-- The sector list of the track under the head. -/
def entries (d : Bool) : List Entry := [⟨1, d, List.replicate 128 0x11⟩, ⟨2, false, List.replicate 128 0x22⟩]

/-- A buffer that holds the track under the head. -/
def held (st : BufState) (d : Bool) : Buffer :=
  { Buffer.free with state := st, key := some track, entries := entries d, recency := some 1 }

/-- `drive` with that buffer as buffer 0. -/
def cached (st : BufState) (d : Bool) : State := drive.setBuffer 0 { held st d with lastWrite := some 0 }

/-- A transaction is in flight. -/
def flying (s : State) (kind : TransKind) (q : Requester) (stage : Stage) (attempt : Nat) : State :=
  { s with card := { s.card with transaction := some ⟨kind, 100, q, stage, 0, attempt, none, false⟩ } }

/-- A command that takes time is executing. -/
def running (s : State) (code : Byte) (ps : List Byte) : State := { s with executing := some ⟨code, 7, ps⟩ }

/-- An eject is in progress. -/
def ejecting (mode : EjectMode) (phase : EjectPhase) : State :=
  { running drive 5 [0, 1] with
    eject := some ⟨0, mode, phase⟩
    units := put drive.units 0 { drive.unit 0 with media := .ejecting, latch := true, mode := .quiet } }

/-- A write window of the track under the head is open. -/
def open_ (prot : Bool) (locked : Bool) (edge : Option Nat) (capture : CaptureState) : State :=
  { drive with
    pins := 0xA8
    units := put drive.units 0 { drive.unit 0 with mode := .quiet }
    wcu :=
      { Wcu.reset with
        window := some ⟨track, prot, true⟩, period := some 512, locked := locked, run := if locked then 16 else 3
        refEdge := edge, capture := capture } }

/-- A READY card's port with some link. -/
def linked (l : Link) : State := { loaded with link := l }

/-- A state with a certain card port. -/
def carded (c : CardPort) : State := { loaded with card := c }

/-- A card that is in a start-up exchange since time 0. -/
def starting (x : StartupExchange) : CardPort :=
  { port with state := .starting, capacity := none, startFrom := some 0, exchange := some (x, 0) }

/-- A prediction of the other side of unit 0's cylinder. -/
def predicted (s : State) : State :=
  { s with cache := { s.cache with predictions := put s.cache.predictions 0 (some ⟨⟨0, 0, 1⟩, 0⟩) } }

/-- A window is open while an eject waits for it. -/
def heldWcu : Wcu := { Wcu.reset with window := some ⟨track, false, true⟩, ejectHoldDue := some 8000000 }

/-- The parameters of a DEFINE_FORMAT of `tiny`. -/
def tinyBytes : List Byte := [0, 1, 250, 0, 0x2C, 1, 3, 2, 2, 0, 1, 1, 0, 10, 1, 5, 4, 0]

/-- The parameters of a LOAD_SLOT of `disk` in slot 0. -/
def diskBytes : List Byte := [0, 0, 0, 0, 0, 1, 100, 0, 0, 0, 8, 0, 0, 0]

/-- The parameters of a SET_PROFILE of the default profile (R110, R123). -/
def profileBytes : List Byte :=
  [5, 6, 7, 8, 1, 2, 4, 3, 0, 3, 0, 1, 2, 5, 8, 1, 0, 82, 0xF4, 1, 15, 0, 0, 0, 0xD0, 7, 1, 1, 16]

/-- The default profile gives every internal input a pin of its own (R110). -/
theorem default_own (s : State) (h : s.profile = Profile.default) :
    OnOwnPin s .sel0 5 ∧ OnOwnPin s .sel1 6 ∧ OnOwnPin s .motor0 7 ∧ OnOwnPin s .motor1 8 ∧ OnOwnPin s .step 1 ∧
      OnOwnPin s .dir 2 ∧ OnOwnPin s .side 4 ∧ OnOwnPin s .wgate 3 ∧ OnOwnPin s .wdata 0 := by
  simp only [OnOwnPin, State.pinOf, h]
  and_intros <;>
    first
    | decide
    | (intro j; cases j <;> decide)

theorem noHold_of_none (s : State) (h : s.eject = none) : NoHold s := by
  intro r e
  rw [h] at e
  cases e

theorem drive_slots (n : SlotId) : (n = 0 ∧ drive.slot n = .mounted disk) ∨ (n ≠ 0 ∧ drive.slot n = .vacant) := by
  have all : ∀ n : SlotId, (n = 0 ∧ drive.slot n = .mounted disk) ∨ (n ≠ 0 ∧ drive.slot n = .vacant) := by
    decide +kernel
  exact all n

/-- The media of `drive`: its slots and formats, unit 0 with slot 0 mounted, and a command that waits for what it has
asked for. -/
abbrev DriveMedia (x : State) : Prop :=
  x.slots = drive.slots ∧ x.formats = drive.formats ∧ (x.unit 0).mounted = some 0 ∧ (x.unit 1).mounted = none ∧
    (∀ u, ((x.unit u).media = .empty ↔ (x.unit u).mounted = none) ∧
      ((x.unit u).media ≠ .ready → (x.unit u).latch = true) ∧ (x.enabled u = false → (x.unit u).media = .empty) ∧
      ((x.unit u).media = .ejecting ↔ x.eject.map EjectRecord.unit = some u)) ∧
    (x.eject.isSome = true → x.executing.map Executing.code = some 5) ∧
    (x.cache.service.isSome = true →
      x.eject.map EjectRecord.phase = some .save ∨ (x.eject = none ∧ x.executing.map Executing.code = some 6)) ∧
    x.inFlight ≠ some .panel ∧ ∀ r ∈ x.card.requests, r.requester ≠ .panel

theorem executing_of_code {e : Option Executing} {c : Byte} (h : e.map Executing.code = some c) :
    ∃ tag ps, e = some ⟨c, tag, ps⟩ := by
  cases e with
  | none => cases h
  | some x => cases h; exact ⟨_, _, rfl⟩

theorem media_of (x : State) (h : DriveMedia x) : MediaConsistent x := by
  obtain ⟨slots, formats, m0, m1, units, ej, sv, fl, rq⟩ := h
  have slot : ∀ n, x.slot n = drive.slot n := fun n => by unfold State.slot; rw [slots]
  refine ⟨fun u => (units u).1, fun u n h => ?_, fun n d h => ?_, fun n _ e => ?_, fun n d h => ?_, fun u => (units u).2.1,
    fun u => (units u).2.2.1, fun u => (units u).2.2.2, fun h => executing_of_code (ej h), fun h => ?_, fun h => ?_,
    fun h => absurd h fl⟩
  · match u with
    | 0 =>
      rw [m0] at h
      cases h
      exact ⟨disk, slot 0⟩
    | 1 =>
      rw [m1] at h
      cases h
  · rcases drive_slots n with ⟨rfl, -⟩ | ⟨-, v⟩
    · exact ⟨0, m0⟩
    · rw [slot, v] at h
      cases h
  · rw [m1] at e
    cases e
  · rw [slot] at h
    rw [formats]
    rcases drive_slots n with ⟨rfl, v⟩ | ⟨-, v⟩ <;> rw [v] at h <;> cases h
    decide +kernel
  · exact (sv h).imp id fun e => ⟨e.1, executing_of_code e.2⟩
  · rcases h with h | ⟨r, h, e⟩
    · exact absurd h fl
    · exact absurd e (rq r h)

/-! ### Well-formed commands -/

theorem test_wellFormed_long_parameters :
    ([Instr.cardInfo 0 (List.replicate 521 0), .cardRead 0 (List.replicate 521 0), .cardWrite 0 (List.replicate 521 0),
      .defineFormat 0 (List.replicate 521 0), .eject 0 (List.replicate 521 0), .flush 0 (List.replicate 521 0),
      .identify 0 (List.replicate 521 0), .loadSlot 0 (List.replicate 521 0), .mount 0 (List.replicate 521 0),
      .queryCache 0 (List.replicate 521 0), .queryUnit 0 (List.replicate 521 0), .reset 0 (List.replicate 521 0),
      .setProfile 0 (List.replicate 521 0), .setProtect 0 (List.replicate 521 0), .unloadSlot 0 (List.replicate 521 0),
      .badCommand 16 0 (List.replicate 521 0)].all fun i => !i.wellFormed) = true := by decide +kernel

theorem test_wellFormed_full_parameters : (Instr.cardWrite 0 (List.replicate 520 0)).wellFormed = true := by
  decide +kernel

theorem test_wellFormed_known_code :
    (Instr.badCommand 1 0 []).wellFormed = false ∧ (Instr.badCommand 15 0 []).wellFormed = false ∧
      (Instr.badCommand 0 0 []).wellFormed = true ∧ (Instr.badCommand 16 0 []).wellFormed = true := by decide

theorem test_wellFormed_known_kind :
    (Instr.unknownFrameKind 0 0).wellFormed = false ∧ (Instr.unknownFrameKind 3 0).wellFormed = false ∧
      (Instr.unknownFrameKind 4 0).wellFormed = true := by decide

theorem test_wellFormed_block_length :
    (Instr.readPhaseEnd (List.replicate 511 0) 0).wellFormed = false ∧
      (Instr.readPhaseEnd (List.replicate 513 0) 0).wellFormed = false ∧
      (Instr.readPhaseEnd (List.replicate 512 0) 0).wellFormed = true := by decide +kernel

/-- No row of the table has bits, so no word spells a command. -/
theorem test_no_word_spells_a_command : decodeTableWord 16 0x1234 = none := by decide

/-! ### Single steps -/

/-- R168: READY, 1,000 blocks, lock off. -/
theorem test_card_info :
    after (exec (.cardInfo 7 []) loaded) (fun t => t.link.replies = [⟨1, 7, .ok, [2, 0xE8, 3, 0, 0, 0]⟩]
      ∧ t.executing = none) = true := by
  decide +kernel

/-- R174. -/
theorem test_identify :
    after (exec (.identify 7 []) loaded) (fun t => t.link.replies = [⟨7, 7, .ok, [0x12, 0x34, 2]⟩]) =
      true := by
  decide +kernel

/-- R166: a length that differs. -/
theorem test_identify_length :
    after (exec (.identify 7 [0]) loaded) (fun t => t.link.replies = [⟨7, 7, .badParam, [1, 0xFF]⟩]) =
      true := by
  decide +kernel

/-- R166: a code that names no command. -/
theorem test_bad_command :
    after (exec (.badCommand 0x10 7 [1, 2]) loaded) (fun t => t.link.replies = [⟨0x10, 7,
      .badCommand, []⟩]) = true := by
  decide +kernel

/-- R148, R151: the last block of the card. -/
theorem test_card_read_posts :
    after (exec (.cardRead 7 [0xE7, 3, 0, 0]) loaded) (fun t => t.card.requests =
      [⟨.readBlock, 999, .panel, 3, 1, none⟩] ∧ t.link.replies = []) = true := by
  decide +kernel

/-- R151: a block at the capacity. -/
theorem test_card_read_above :
    after (exec (.cardRead 7 [0xE8, 3, 0, 0]) loaded) (fun t => t.link.replies = [⟨2, 7,
      .badParam, [0x50, 0xFF]⟩]) = true := by
  decide +kernel

/-- R152: a block of a MOUNTED slot. -/
theorem test_card_write_mounted :
    after (exec (.cardWrite 7 ([107, 0, 0, 0] ++ List.replicate 512 1)) drive) (fun t => t.link.replies = [⟨3, 7, .slotBusy, [0, 0xFF]⟩]) = true := by
  decide +kernel

/-- R5, R171. -/
theorem test_define_format :
    after (exec (.defineFormat 7 tinyBytes) (State.reset)) (fun t => look t.formats 0 = some tiny ∧
      t.link.replies = [⟨4, 7, .ok, []⟩]) = true := by
  decide +kernel

/-- R6: 97 cylinders. -/
theorem test_define_format_cylinders :
    after (exec (.defineFormat 7 (tinyBytes.set 6 97)) (State.reset)) (fun t =>
      t.link.replies = [⟨4, 7, .badParam, [6, 0xFF]⟩] ∧ look t.formats 0 = none) = true := by
  decide +kernel

/-- R11, R14. -/
theorem test_load_slot :
    after (exec (.loadSlot 7 diskBytes) loaded) (fun t => t.slot 0 = .loaded disk ∧ t.link.replies
      = [⟨8, 7, .ok, []⟩]) = true := by
  decide +kernel

/-- R13: two blocks for 3 × 2 × 256 bytes. -/
theorem test_load_slot_short :
    after (exec (.loadSlot 7 (diskBytes.set 10 2)) loaded) (fun t => t.link.replies =
      [⟨8, 7, .badParam, [0x26, 0xFF]⟩]) = true := by
  decide +kernel

/-- R15. -/
theorem test_unload_slot :
    after (exec (.unloadSlot 7 [0]) loaded) (fun t => t.slot 0 = .vacant) = true := by
  decide +kernel

/-- R137: a VACANT slot. -/
theorem test_set_protect_vacant :
    after (exec (.setProtect 7 [1, 1]) loaded) (fun t => t.link.replies = [⟨14, 7, .badParam, [0x27,
      0xFF]⟩]) = true := by
  decide +kernel

/-- R129, R130. -/
theorem test_mount :
    after (exec (.mount 7 [0, 0]) loaded) (fun t => (t.unit 0).media = .ready ∧ t.slot 0 = .mounted
      disk ∧ t.link.reports = [⟨.mediaInserted, some 0, some 0, some 0, none, 0⟩] ∧ t.link.replies = [⟨9, 7, .ok,
      []⟩]) = true := by
  decide +kernel

/-- R129: unit 1 is disabled after reset (R123). -/
theorem test_mount_disabled :
    after (exec (.mount 7 [1, 0]) loaded) (fun t => t.link.replies = [⟨9, 7, .unitBusy, [1, 0xFF]⟩])
      = true := by
  decide +kernel

/-- R131 to R135: FORCE with nothing to save. -/
theorem test_eject_force :
    after (exec (.eject 7 [0, 1]) drive) (fun t => (t.unit 0).media = .empty ∧ (t.unit 0).latch ∧
      t.slot 0 = .loaded disk ∧ t.link.reports = [⟨.dataDiscarded, some 0, some 0, some 0, none, 0⟩, ⟨.mediaEjected,
      some 0, some 0, some 0, none, 0⟩]) = true := by
  decide +kernel

/-- R132, R133: NORMAL with a dirty track. -/
theorem test_eject_normal_saves :
    after (exec (.eject 7 [0, 0]) (cached .dirty true)) (fun t => (t.unit 0).media = .ejecting ∧
      (t.buffer 0).state = .flushing ∧ (t.buffer 0).flushClass = some 2 ∧ t.eject = some ⟨0, .normal, .save⟩) = true
      := by
  decide +kernel

/-- R173: nothing to save. -/
theorem test_flush_clean :
    after (exec (.flush 7 [2]) drive) (fun t => t.link.replies = [⟨6, 7, .ok, []⟩]) = true := by
  decide +kernel

/-- R17, R53, R173: the span is 256 bytes of one block. -/
theorem test_flush_dirty :
    after (exec (.flush 7 [0]) (cached .dirty true)) (fun t => (t.buffer 0).state = .flushing ∧
      t.card.requests.map (fun r => (r.kind, r.block, r.cls)) = [(.merge, 100, 2)]) = true := by
  decide +kernel

/-- R178. -/
theorem test_query_unit :
    after (exec (.queryUnit 7 [0]) drive) (fun t => t.link.replies = [⟨11, 7, .ok, [0, 1, 1, 0, 0, 0,
      2, 1, 1, 0]⟩]) = true := by
  decide +kernel

/-- R177: three FREE buffers. -/
theorem test_query_cache :
    after (exec (.queryCache 7 []) (State.reset)) (fun t => t.link.replies.map Reply.payload = [[0, 0,
      255, 255, 255, 0, 0, 0, 1, 0, 255, 255, 255, 0, 0, 0, 2, 0, 255, 255, 255, 0, 0, 0]]) = true := by
  decide +kernel

/-- R180: the tolerance is clamped to 64. -/
theorem test_set_profile :
    after (exec (.setProfile 7 (profileBytes.set 28 255)) loaded) (fun t =>
      t.link.replies = [⟨13, 7, .ok, [0xF4, 1, 15, 0xD0, 7, 64]⟩] ∧ t.profile.tolerance = 64) = true := by
  decide +kernel

/-- R124. -/
theorem test_set_profile_busy :
    after (exec (.setProfile 7 profileBytes) drive) (fun t => t.link.replies = [⟨13, 7,
      .unitBusy, [0, 0xFF]⟩]) = true := by
  decide +kernel

/-- R179: a transaction is in flight. -/
theorem test_reset_waits :
    after (exec (.reset 7 []) (flying loaded .readBlock .panel .awaitBlock 1)) (fun t => t.link.replies
      = [] ∧ t.card.state = .ready ∧ t.executing = some ⟨12, 7, []⟩) = true := by
  decide +kernel

/-- R126, R179: DI7 is asserted. -/
theorem test_reset_takes_effect :
    after (exec .resetTakesEffect (running drive 12 [])) (fun t => t.link.replies = [⟨12, 7, .ok, []⟩] ∧ t.card.state
      = .absent ∧ (t.unit 0).media = .empty ∧ (t.unit 0).motor = .spinningUp ∧ t.slot 0 = .vacant) = true := by
  decide +kernel

/-- R126, R154. -/
theorem test_hardware_reset :
    after (exec (.hardwareReset (some 0x08) true false) drive) (fun t => t.wcu.window = none ∧ t.card.detectFrom = some 0 ∧
      t.pins = 8 ∧ t.link.reports = []) = true := by
  decide +kernel

/-- R109, R126: TRACK0 is up at cylinder 0, and no output is while the reset is asserted. -/
theorem test_hardware_reset_held :
    drive.output 2 = true ∧ after (exec (.hardwareReset none true true) drive) (fun t => t.output 2 = false ∧
      t.attn = false) = true := by
  decide +kernel

/-- R156: three free slots and a READY card. -/
theorem test_status :
    after (exec (.status 2) loaded) (fun t => t.link.mdo = [0x43, 0]) = true := by
  decide +kernel

/-- R157: FRAME_FAULT is cleared once shown. -/
theorem test_status_fault :
    after (exec (.status 1) { loaded with link := { loaded.link with fault := true } }) (fun t => t.link.mdo = [0x63]
      ∧ t.link.fault = false) = true := by
  decide +kernel

/-- R158: another command executes. -/
theorem test_command :
    after (exec (.command [9, 5, 2, 0, 0, 0]) (running loaded 6 [2])) (fun t => t.link.commands = [⟨9, 5, [0, 0]⟩] ∧
      t.link.mdo = [0xC3, 0, 0, 0, 0, 0, 0]) = true := by
  decide +kernel

/-- R159, R174: the command is carried out at once, and its reply waits. -/
theorem test_command_carried_out :
    after (exec (.command [7, 5, 0, 0]) loaded) (fun t => t.link.replies = [⟨7, 5, .ok, [0x12, 0x34, 2]⟩] ∧
      t.link.commands = []) = true := by
  decide +kernel

/-- R160: the empty reply header. -/
theorem test_fetch_reply_empty :
    after (exec (.fetchReply 5) loaded) (fun t => t.link.mdo = [0x43, 0, 0, 0, 0, 0]) = true := by
  decide +kernel

/-- R160. -/
theorem test_fetch_reply :
    after (exec (.fetchReply 8) { loaded with link := { loaded.link with replies := [⟨7, 9, .ok, [0x12, 0x34, 2]⟩] }
      }) (fun t => t.link.mdo = [0x47, 7, 9, 0, 3, 0, 0x12, 0x34, 2] ∧ t.link.replies = []) = true := by
  decide +kernel

/-- R161, R162. -/
theorem test_fetch_reports :
    after (exec (.fetchReports (2 :: List.replicate 8 0)) (linked { loaded.link with
      reports := [⟨.cardReady, none, none, none, none, 0x102⟩], lost := true })) (fun t => t.link.mdo = [0x5B, 0, 1, 1, 255,
      255, 255, 255, 2, 1] ∧ t.link.reports = [] ∧ t.link.lost = false) = true := by
  decide +kernel

/-- R155, R157. -/
theorem test_unknown_frame :
    after (exec (.unknownFrameKind 4 0) loaded) (fun t => t.link.fault = true ∧ t.link.mdo = [0x43]) = true := by
  decide +kernel

/-- R157. -/
theorem test_msel_cuts_command :
    after (exec .mselNegated { loaded with link := { loaded.link with frame := some (.command [9]) } }) (fun t =>
      t.link.fault = true ∧ t.link.frame = none) = true := by
  decide +kernel

/-- R159. -/
theorem test_command_start :
    after (exec .commandStart { loaded with link := { loaded.link with commands := [⟨7, 9, []⟩] } }) (fun t =>
      t.link.replies = [⟨7, 9, .ok, [0x12, 0x34, 2]⟩] ∧ t.link.commands = []) = true := by
  decide +kernel

/-- R112. -/
theorem test_select_conflict :
    after (exec (.selectChange 1 true) { drive with profile := { drive.profile with enables := #v[true, true] } })
      (fun t => t.conflict = .conflict ∧ t.link.reports = [⟨.selectConflict, none, none, none, none, 0⟩]) = true := by
  decide +kernel

/-- R116: 500 ms. -/
theorem test_motor_assert :
    after (exec (.motorAssert 0) loaded) (fun t => (t.unit 0).motor = .spinningUp ∧ (t.unit 0).spinUpDue = some
      8000000) = true := by
  decide +kernel

/-- R52, R116: flush on motor stop. -/
theorem test_motor_negate :
    after (exec (.motorNegate 0) (cached .dirty true)) (fun t => (t.unit 0).motor = .stopped ∧ (t.buffer 0).flushClass
      = some 4) = true := by
  decide +kernel

/-- R30, R42, R116. -/
theorem test_spin_up_expiry :
    after (exec (.spinUpExpiry 0) (drive.setUnit 0 { drive.unit 0 with motor := .spinningUp, spinUpDue := some 9 }))
      (fun t => (t.unit 0).motor = .atSpeed ∧ (t.unit 0).rotationStart = 9 ∧ t.link.reports = [⟨.trackMiss, some 0,
      some 0, some 0, none, 0⟩]) = true := by
  decide +kernel

/-- R34, R43, R113, R119: 15 ms. -/
theorem test_step_inward :
    after (exec (.step true) drive) (fun t => (t.unit 0).cylinder = 1 ∧ (t.unit 0).settleDue = some 240000 ∧ (t.unit
      0).latch = false ∧ (t.unit 0).mode = .quiet ∧ (t.buffer 0).key = some ⟨0, 1, 0⟩) = true := by
  decide +kernel

/-- R113: track zero. -/
theorem test_step_at_zero :
    after (exec (.step false) drive) (fun t => (t.unit 0).cylinder = 0 ∧ (t.unit 0).lastDir = .outward ∧ (t.unit
      0).settleDue = none) = true := by
  decide +kernel

/-- R33, R43, R115. -/
theorem test_side_change :
    after (exec (.sideChange true) drive) (fun t => t.head = 1 ∧ (t.buffer 0).key = some ⟨0, 0, 1⟩) = true := by
  decide +kernel

/-- R80, R85: 2 µs are 512 units. -/
theorem test_wgate_opens :
    after (exec .wgateAssert drive) (fun t => t.wcu.window = some ⟨track, false, true⟩ ∧ t.wcu.period = some 512 ∧
      (t.unit 0).mode = .quiet) = true := by
  decide +kernel

/-- R82, R95. -/
theorem test_wgate_close_cuts :
    after (exec .wgateNegate (open_ false true none .field)) (fun t => t.wcu.window = none ∧ t.link.reports =
      [⟨.writeFieldBad, some 0, some 0, some 0, none, 1⟩]) = true := by
  decide +kernel

/-- R86, R87: 1,088 units are two half-cells, 64 too many, and 64 / 16 is 4; R20, R85: bit 1 has begun at tick 64. -/
theorem test_transition_in_band :
    after (exec (.writeTransition 68) (open_ false false (some 0) .hunting)) (fun t => t.wcu.run = 4 ∧ t.wcu.period =
      some 516 ∧ t.now = 68 ∧ (t.unit 0).bitCount = 1) = true := by
  decide +kernel

/-- R88: one half-cell in MFM. -/
theorem test_transition_out_of_band :
    after (exec (.writeTransition 32) (open_ false true (some 0) .field)) (fun t => t.wcu.locked = false ∧ t.wcu.run =
      0 ∧ t.link.reports = [⟨.writeFieldBad, some 0, some 0, some 0, none, 2⟩]) = true := by
  decide +kernel

/-- R20, R68: bit 1 of 0x4E. -/
theorem test_bit_boundary :
    after (exec (.bitBoundary 0) drive) (fun t => (t.unit 0).bitCount = 1 ∧ t.now = 64 ∧ (t.unit 0).dataCell = true ∧
      (t.unit 0).clockCell = false) = true := by
  decide +kernel

/-- R19, R32: 50,000 bits of 64 ticks. -/
theorem test_index_arrival :
    after (exec (.indexArrival 0) drive) (fun t => (t.unit 0).bitCount = 50000 ∧ t.now = 3200000) = true := by
  decide +kernel

/-- R21: 500 bits at 250 kbit/s. -/
theorem test_index_region_end :
    after (exec (.indexRegionEnd 0) drive) (fun t => (t.unit 0).bitCount = 500 ∧ t.source 0 .index = false) = true :=
      by
  decide +kernel

/-- R76. -/
theorem test_resume_hold_end :
    after (exec (.resumeHoldEnd 0) (drive.setUnit 0 { drive.unit 0 with bitCount := 9, hold := true })) (fun t =>
      (t.unit 0).bitCount = 16 ∧ (t.unit 0).hold = false) = true := by
  decide +kernel

/-- R35, R42, R66. -/
theorem test_settle_expiry :
    after (exec (.settleExpiry 0) (drive.setUnit 0 { drive.unit 0 with settleDue := some 5, mode := .quiet })) (fun t
      => (t.unit 0).settleDue = none ∧ (t.unit 0).mode = .filler ∧ t.link.reports = [⟨.trackMiss, some 0, some 0, some
      0, none, 0⟩]) = true := by
  decide +kernel

/-- R83, R132, R133. -/
theorem test_eject_hold_expiry :
    after (exec .ejectHoldExpiry { ejecting .force .hold with
      pins := 0xA8, wcu := heldWcu }) (fun t => t.wcu.window = none ∧ t.now = 8000000 ∧
      (t.unit 0).media = .empty ∧ t.eject = none) = true := by
  decide +kernel

/-- R52: 2,000 ms after the last write. -/
theorem test_write_back :
    after (exec (.writeBackDelayExpiry 0) (cached .dirty true)) (fun t => t.now = 32000000 ∧ (t.buffer 0).state =
      .flushing ∧ (t.buffer 0).flushClass = some 4) = true := by
  decide +kernel

/-- R44. -/
theorem test_demand_fill_resumed :
    after (exec .demandFillResumed { drive with cache := { drive.cache with waiting := [0] } }) (fun t => (t.buffer
      0).key = some track ∧ (t.buffer 0).fillClass = some 1 ∧ t.cache.waiting = []) = true := by
  decide +kernel

/-- R51. -/
theorem test_prefetch_acted_on :
    after (exec .prefetchActedOn (predicted (cached .valid false))) (fun t => (t.buffer 1).key = some ⟨0, 0, 1⟩ ∧ (t.buffer
      1).fillClass = some 5) = true := by
  decide +kernel

/-- R141. -/
theorem test_cdet_change :
    after (exec (.cdetChangeWhileAbsent true) State.reset) (fun t => t.card.detectFrom = some 0) = true := by
  decide +kernel

/-- R141 to R143. -/
theorem test_card_detect :
    after (exec .cardDetect (carded
      { CardPort.reset with cdet := true, clsw := true, detectFrom := some 0 })) (fun t => t.card.state = .starting ∧ t.now = 320000 ∧ t.card.lock = true) = true := by
  decide +kernel

/-- R143. -/
theorem test_lock_switch :
    after (exec (.lockSwitchChange true) loaded) (fun t => t.card.lock = true) = true := by
  decide +kernel

/-- R142: a capacity above the largest the port holds. -/
theorem test_startup_answer :
    after (exec (.startupExchangeAnswer true false true true 5000000000) (carded (starting .readCapacity))) (fun t =>
      t.card.state = .ready ∧ t.card.capacity = some 4294967295 ∧ t.link.reports = [⟨.cardReady, none, none, none,
      none, 0⟩]) = true := by
  decide +kernel

/-- R142. -/
theorem test_exchange_timeout :
    after (exec .exchangeTimeout (carded (starting .identify))) (fun t => t.card.exchange = some (.identify, 1600000)) = true := by
  decide +kernel

/-- R142. -/
theorem test_startup_timeout :
    after (exec .startupTimeout (carded (starting .identify))) (fun t => t.card.state = .failed ∧ t.link.reports = [⟨.cardFailed,
      none, none, none, none, 1⟩]) = true := by
  decide +kernel

/-- R139, R153, R167. -/
theorem test_card_removal :
    after (exec .cardRemoval (running (cached .dirty true) 6 [2])) (fun t => t.card.state = .absent ∧ t.slot 0 = .vacant
      ∧ t.link.reports = [⟨.dataDiscarded, some 0, some 0, some 0, none, 1⟩, ⟨.cardRemoved, none, none, none, none,
      2⟩] ∧ t.link.replies = [⟨6, 7, .noCard, []⟩]) = true := by
  decide +kernel

/-- Two requests of different classes. -/
def asked : State :=
  carded { port with requests := [⟨.readBlock, 5, .fill 0, 5, 1, none⟩, ⟨.readBlock, 6, .panel, 3, 2, none⟩] }

theorem asked_granted : asked.taken.granted = some ⟨.readBlock, 6, .panel, 3, 2, none⟩ := by
  show [(⟨.readBlock, 6, .panel, 3, 2, none⟩ : Request)][Config.grantPick 0 % 1]? = _
  rw [Nat.mod_one]
  rfl

/-- R149. -/
theorem test_grant_by_class :
    after (exec .arbiterGrant asked) (fun t => t.card.transaction.map Transaction.block = some 6 ∧
      t.card.requests.length = 1) = true := by
  show after (.next asked.taken.arbitrate) _ = true
  rw [State.arbitrate, asked_granted]
  decide +kernel

/-- R145. -/
theorem test_block_begins :
    after (exec .cardBlockBegins (flying loaded .readBlock .panel .awaitBlock 1)) (fun t => t.card.transaction.map
      Transaction.stage = some .receiving) = true := by
  decide +kernel

/-- R145: the check of zeros from 0 is 0. -/
theorem zeros_check (n : Nat) : transferCheck (List.replicate n 0) = 0 := by
  have h : crcByte 0 0 = 0 := by decide
  show (List.replicate n 0).foldl crcByte 0 = 0
  induction n with
  | zero => rfl
  | succ n ih => rw [List.replicate_succ, List.foldl_cons, h, ih]

/-- A block of zeros. -/
def zeros : List Byte := List.replicate 512 0

theorem readEnd_zeros (s : State) (t : Transaction) (check : Word16) :
    State.readEnd zeros check s t =
      if (0 : Word16) = check then
        if t.kind = .merge then (s.mapCard fun c => { c with scratch := some zeros }).mergeTake t
        else (s.mapCard fun c => { c with scratch := some zeros }).finish t .ok
      else (s.mapCard fun c => { c with scratch := some zeros }).attemptFails t .dataCheck := by
  have h : transferCheck zeros = 0 := zeros_check 512
  unfold State.readEnd
  rw [h]
  cases t.kind <;> rfl

/-- READ_PHASE_END with a block of zeros. -/
theorem exec_zeros (s : State) (check : Word16) :
    exec (.readPhaseEnd zeros check) s =
      .next (State.followQueue s (s.taken.atStage [.awaitBlock, .receiving] fun s t =>
        if (0 : Word16) = check then
          if t.kind = .merge then (s.mapCard fun c => { c with scratch := some zeros }).mergeTake t
          else (s.mapCard fun c => { c with scratch := some zeros }).finish t .ok
        else (s.mapCard fun c => { c with scratch := some zeros }).attemptFails t .dataCheck)) := by
  have h : zeros.length = Config.blockBytes := List.length_replicate
  show Host.Outcome.next (State.followQueue s (if zeros.length = Config.blockBytes then _ else _)) = _
  rw [if_pos h]
  exact congrArg (fun g => Host.Outcome.next (State.followQueue s (s.taken.atStage [.awaitBlock, .receiving] g)))
    (funext fun s => funext fun t => readEnd_zeros s t check)

/-- R47, R66. -/
theorem test_fill_completes :
    after (exec (.readPhaseEnd zeros 0) (flying (drive.setBuffer 0 { held .filling false with fillClass := some 1 })
      .readBlock (.fill 0) .receiving 1)) (fun t => (t.buffer 0).state = .valid ∧ (t.unit 0).mode = .track ∧
      ((t.buffer 0).entries.map Entry.data).all (fun d => d.all (fun x => x = 0))) = true := by
  rw [exec_zeros]
  decide +kernel

/-- R146. -/
theorem test_read_check_repeats :
    after (exec (.readPhaseEnd zeros 1) (flying loaded .readBlock .panel .receiving 1)) (fun t =>
      t.card.transaction.map Transaction.attempt = some 2) = true := by
  rw [exec_zeros]
  decide +kernel

/-- R145, R152. -/
theorem test_write_answer :
    after (exec (.writeCommandAnswer false) (running (flying loaded .writeBlock .panel .awaitAnswer 2) 3 [])) (fun t
      => t.link.replies = [⟨3, 7, .cardError, [3, 0xFF]⟩]) = true := by
  decide +kernel

/-- R145. -/
theorem test_last_byte :
    after (exec .lastByteSent (flying loaded .writeBlock .panel .sending 1)) (fun t => t.card.transaction.map
      Transaction.stage = some .awaitResponse) = true := by
  decide +kernel

/-- R145. -/
theorem test_data_response :
    after (exec (.dataResponse .accepted) (flying loaded .writeBlock .panel .awaitResponse 1)) (fun t =>
      t.card.transaction.map Transaction.stage = some .busy) = true := by
  decide +kernel

/-- R145, R152. -/
theorem test_busy_end :
    after (exec .busyEnd (running (flying loaded .writeBlock .panel .busy 1) 3 [])) (fun t => t.link.replies = [⟨3, 7,
      .ok, []⟩] ∧ t.card.transaction = none) = true := by
  decide +kernel

/-- R145, R146: 100 ms. -/
theorem test_no_response :
    after (exec .noResponse (flying loaded .readBlock .panel .awaitBlock 1)) (fun t => t.now = 1600000 ∧
      t.card.transaction.map Transaction.attempt = some 2) = true := by
  decide +kernel

/-- R145, R146: 500 ms. -/
theorem test_busy_timeout :
    after (exec .busyTimeout (flying loaded .writeBlock .panel .busy 1)) (fun t => t.now = 8000000 ∧
      t.card.transaction.map Transaction.stage = some .awaitAnswer) = true := by
  decide +kernel

/-- R62, R133. -/
theorem test_unit_release :
    after (exec .unitRelease (ejecting .normal .release)) (fun t => t.link.reports = [⟨.mediaEjected, some 0, some 0,
      some 0, none, 0⟩] ∧ t.link.replies = [⟨5, 7, .ok, []⟩]) = true := by
  decide +kernel

/-! ### Witnesses: for each statement with hypotheses, states and operands that meet them, clause by clause -/

/-- `loaded` with some commands and replies in the queues. -/
def queued (cs : List QueuedCommand) (replies : Nat) : State :=
  linked { loaded.link with commands := cs, replies := List.replicate replies ⟨7, 9, .ok, []⟩ }

/-- `loaded` with a transaction of the link under way. -/
def framed (f : Option Frame) : State := linked { loaded.link with frame := f }

theorem idle_unoccupied (s : State) (h : s.executing = none) (l : s.link = Link.reset) : Unoccupied s := by
  unfold Unoccupied
  rw [l]
  exact ⟨h, by decide⟩

theorem disk_only (m : SlotId) (e : SlotData) (h : (loaded.slot m).data = some e) : e = disk := by
  have all : ∀ m : SlotId, (loaded.slot m).data = none ∨ (loaded.slot m).data = some disk := by decide +kernel
  rcases all m with h' | h' <;> rw [h'] at h <;> cases h
  rfl

theorem disk_counts : ∀ e ∈ disk.extents, 1 ≤ e.count := by decide

theorem witness_StepRunsFrontCommand :
    ({ loaded with pending := [.cardDetect, .lastByteSent] } : State).pending = .cardDetect :: [.lastByteSent] ∧
      State.reset.pending = [] ∧ State.reset.ownSteps.find? (fun p => p.1) = none ∧
      (queued [⟨7, 9, []⟩] 0).pending = [] ∧ ∃ p, (queued [⟨7, 9, []⟩] 0).ownSteps.find? (fun p => p.1) = some p :=
  ⟨rfl, rfl, Option.isNone_iff_eq_none.mp (by decide +kernel), rfl,
    Option.isSome_iff_exists.mp (by decide +kernel)⟩

/-- RESET comes to an unoccupied Command Processor, and waits, with a transaction in flight and without one. -/
theorem witness_ResetsTaken :
    let busy := flying drive .readBlock .panel .receiving 2
    (Unoccupied drive ∧ Unoccupied busy) ∧ drive.card.transaction = none ∧ busy.card.transaction ≠ none ∧
      (running drive 12 []).executing = some ⟨12, 7, []⟩ ∧ (running drive 12 []).card.transaction = none ∧
      (running busy 12 []).executing = some ⟨12, 7, []⟩ ∧ (running busy 12 []).card.transaction ≠ none ∧
      (running drive 12 []).card.state ≠ .absent :=
  ⟨⟨idle_unoccupied _ rfl rfl, idle_unoccupied _ rfl rfl⟩, by decide +kernel⟩

/-- Room for the last reply, and none; a command in front of two, and none; a command that executes. -/
theorem witness_CommandsCarriedOut :
    let q : QueuedCommand := ⟨7, 9, []⟩
    let may := fun x : State => x.executing = none ∧ x.link.commands ≠ [] ∧ x.link.replies.length < 3
    (queued [q, q, q] 2).link.commands = q :: [q, q] ∧ (queued [q, q, q] 2).executing = none ∧
      (queued [q, q, q] 2).link.replies.length < 3 ∧ may (queued [q] 2) ∧ ¬ may (queued [q] 3) ∧ ¬ may (queued [] 2) ∧
      ¬ may (running (queued [q] 2) 6 [2]) ∧ commandOf (.identify 9 []) = some q ∧
      commandOf (.badCommand 16 9 []) = some ⟨16, 9, []⟩ ∧ Unoccupied (queued [] 2) ∧ ¬ Unoccupied (queued [] 3) ∧
      ¬ Unoccupied (queued [q] 2) ∧ ¬ Unoccupied (running (queued [] 2) 6 [2]) := by
  unfold Unoccupied
  decide +kernel

theorem witness_BadCommandsRefused :
    commandOf (.cardInfo 7 [0]) = some ⟨1, 7, [0]⟩ ∧ Unoccupied loaded ∧
      [0].length ≠ parameterLength ⟨1, 7, [0]⟩ ∧ commandOf (.unloadSlot 7 []) = some ⟨15, 7, []⟩ ∧
      ([] : List Byte).length ≠ parameterLength ⟨15, 7, []⟩ ∧
      commandOf (.badCommand 0 7 []) = some ⟨0, 7, []⟩ ∧ commandOf (.badCommand 16 7 []) = some ⟨16, 7, []⟩ := by
  unfold Unoccupied
  decide +kernel

/-- The items of the port go together, when nothing is in flight and the card is READY. -/
theorem card_of_port (s : State) (h : s.card = port) : CardConsistent s := by
  unfold CardConsistent
  rw [h]
  refine ⟨by decide, fun n e => ?_, by decide⟩
  have : 1000 = n := Option.some.inj e
  omega

theorem witness_CardInfoAnswered : CardConsistent loaded ∧ Unoccupied loaded :=
  ⟨card_of_port _ rfl, idle_unoccupied _ rfl rfl⟩

theorem witness_IdentifyAnswered : Unoccupied State.reset := idle_unoccupied _ rfl rfl

theorem witness_QueriesAnswered :
    (Unoccupied drive ∧ Unoccupied (cached .dirty true)) ∧ 1 < (2 : Byte).toNat ∧
      (1 : Byte) = BitVec.ofNat 8 (1 : DriveId).val :=
  ⟨⟨idle_unoccupied _ rfl rfl, idle_unoccupied _ rfl rfl⟩, by decide⟩

theorem tiny_allowed : FormatAllowed tinyBytes := by
  unfold FormatAllowed
  dsimp only
  decide +kernel

/-- R6: one sector too many for the last sector number, 255. -/
theorem numbers_refused : ¬ FormatAllowed (tinyBytes.set 10 254) := by
  unfold FormatAllowed
  dsimp only
  decide +kernel

theorem witness_FormatDefined :
    let far := tinyBytes.set 0 4
    let high := tinyBytes.set 10 254
    (FormatAllowed tinyBytes ∧ ¬ FormatAllowed high) ∧ (Unoccupied State.reset ∧ Unoccupied loaded) ∧
      (∀ ps ∈ [far, high, tinyBytes], ps.length = 18 + byteAt ps 17 * byteAt ps 8) ∧ 3 < byteAt far 0 ∧
      byteAt tinyBytes 0 = (0 : FormatId).val ∧ (loaded.slot 0).data.map SlotData.format = some 0 ∧
      (∀ m : SlotId, m < 0 → (loaded.slot m).data.map SlotData.format ≠ some 0) ∧
      ∀ m : SlotId, (State.reset.slot m).data.map SlotData.format ≠ some 0 :=
  ⟨⟨tiny_allowed, numbers_refused⟩, ⟨idle_unoccupied _ rfl rfl, idle_unoccupied _ rfl rfl⟩, by decide +kernel⟩

theorem witness_SlotLoaded :
    let far := diskBytes.set 0 8
    let above := diskBytes.set 1 4
    let none_ := diskBytes.set 1 3
    let prot := diskBytes.set 2 2
    let short := diskBytes.set 10 2
    let exact_ := (diskBytes.set 0 7).set 10 3
    (Unoccupied State.reset ∧ Unoccupied loaded ∧ Unoccupied drive) ∧
      (∀ ps ∈ [far, above, none_, prot, short, exact_], ps.length = 6 + 8 * byteAt ps 5) ∧
      7 < byteAt far 0 ∧ byteAt above 0 = (0 : SlotId).val ∧ byteAt exact_ 0 = (7 : SlotId).val ∧
      State.reset.card.state ≠ .ready ∧ loaded.card.state = .ready ∧ drive.slot 0 = .mounted disk ∧
      drive.card.state = .ready ∧ loaded.slot 7 = .vacant ∧ loaded.slot 0 = .loaded disk ∧
      3 < byteAt above 1 ∧ byteAt none_ 1 = (3 : FormatId).val ∧ look loaded.formats 3 = none ∧
      byteAt prot 1 = (0 : FormatId).val ∧ look loaded.formats 0 = some tiny ∧ 1 < byteAt prot 2 ∧
      byteAt short 2 ≤ 1 ∧ ¬ ExtentsAllowed tiny (wordAt short 3) 1000 (extentsOf short) ∧ byteAt exact_ 2 ≤ 1 ∧
      ExtentsAllowed tiny (wordAt exact_ 3) 1000 (extentsOf exact_) ∧ loaded.card.capacity.getD 0 = 1000 := by
  unfold Unoccupied ExtentsAllowed
  decide +kernel

theorem witness_SlotsKept :
    Unoccupied loaded ∧ Unoccupied drive ∧ 7 < (8 : Byte).toNat ∧ (7 : Byte) = BitVec.ofNat 8 (7 : SlotId).val ∧
      drive.slot 0 = .mounted disk ∧ loaded.slot 0 = .loaded disk ∧ loaded.slot 7 = .vacant ∧
      1 < (2 : Byte).toNat ∧ (1 : Byte).toNat ≤ 1 := by
  unfold Unoccupied
  decide +kernel

/-- `drive` with both units enabled and a second image in slot 7. -/
def both (d : SlotData) : State :=
  { drive with
    profile := { drive.profile with enables := #v[true, true] }, slots := put drive.slots 7 (.loaded d) }

/-- The checks of R129; the other image shares its last block with the mounted one. -/
theorem witness_MountRefused :
    let shared : SlotData := ⟨0, false, 0, [⟨107, 3⟩]⟩
    (Unoccupied loaded ∧ Unoccupied drive ∧ Unoccupied (both shared)) ∧ 1 < (2 : Byte).toNat ∧
      (1 : Byte) = BitVec.ofNat 8 (1 : DriveId).val ∧ 7 < (8 : Byte).toNat ∧
      (7 : Byte) = BitVec.ofNat 8 (7 : SlotId).val ∧ loaded.enabled 1 = false ∧
      (drive.unit 0).media ≠ .empty ∧ loaded.enabled 0 = true ∧ (loaded.unit 0).media = .empty ∧
      (carded { port with state := .failed }).card.state ≠ .ready ∧ loaded.card.state = .ready ∧
      loaded.slot 7 = .vacant ∧ loaded.slot 0 = .loaded disk ∧ (both shared).slot 7 = .loaded shared ∧
      (both shared).enabled 1 = true ∧ ((both shared).unit 0).mounted = some 0 ∧
      ((both shared).slot 0).data = some disk ∧ shared.hasBlock 107 = true ∧ disk.hasBlock 107 = true := by
  unfold Unoccupied
  decide +kernel

/-- The clause of R129 on the physical cylinders: 3 cylinders where the profile has 2. -/
theorem witness_MountRefused_cylinders :
    let s : State := { loaded with profile := { loaded.profile with physical := 2 } }
    (∀ m e, (s.slot m).data = some e → ∀ a ∈ e.extents, 1 ≤ a.count) ∧ Unoccupied s ∧ s.enabled 0 = true ∧
      (s.unit 0).media = .empty ∧ s.card.state = .ready ∧ s.slot 0 = .loaded disk ∧
      (∀ v : DriveId, (s.unit v).mounted = none) ∧ (∀ e ∈ disk.extents, 1 ≤ e.count) ∧
      look s.formats disk.format = some tiny ∧ s.profile.physical < tiny.cylinders := by
  refine ⟨fun m e h => ?_, idle_unoccupied _ rfl rfl, by decide +kernel⟩
  rw [disk_only m e h]
  exact disk_counts

theorem witness_Mounted :
    (∀ m e, (loaded.unit 1).mounted = some m → (loaded.slot m).data = some e →
        ∀ c, disk.hasBlock c = true → e.hasBlock c = false) ∧
      (∀ m e, (loaded.slot m).data = some e → ∀ a ∈ e.extents, 1 ≤ a.count) ∧ Unoccupied loaded ∧
      loaded.eject = none ∧ (1 : DriveId) ≠ 0 ∧ loaded.enabled 0 = true ∧ (loaded.unit 0).media = .empty ∧
      loaded.card.state = .ready ∧ loaded.slot 0 = .loaded disk ∧ (∀ e ∈ disk.extents, 1 ≤ e.count) ∧
      look loaded.formats disk.format = some tiny ∧ tiny.cylinders ≤ loaded.profile.physical ∧
      loaded.link.reports.length < 16 := by
  refine ⟨fun m e h => ?_, fun m e h => ?_, idle_unoccupied _ rfl rfl, by decide +kernel⟩
  · have empty : loaded.unit 1 = UnitState.reset := by decide +kernel
    rw [empty] at h
    cases h
  · rw [disk_only m e h]
    exact disk_counts

/-- R132: with a window of the unit open, and with a DIRTY track and no window. -/
theorem witness_EjectAccepted :
    let s := open_ false true none .field
    let c := cached .dirty true
    (Unoccupied drive ∧ Unoccupied s ∧ Unoccupied c) ∧ 1 < (2 : Byte).toNat ∧
      (0 : Byte) = BitVec.ofNat 8 (0 : DriveId).val ∧ (1 : Byte).toNat ≤ 1 ∧ (loaded.unit 0).media = .empty ∧
      (s.unit 0).media = .ready ∧ s.wcu.window = some ⟨track, false, true⟩ ∧ track.unit = 0 ∧
      (s.unit 0).motor = .atSpeed ∧ (c.unit 0).media = .ready ∧ c.windowOf 0 = false ∧
      (c.buffer 0).ofUnit 0 = true ∧ (c.buffer 0).state = .dirty ∧ (c.nextFlushBlock 0 0).isSome = true := by
  unfold Unoccupied
  decide +kernel

/-- FORCE with a DIRTY track, NORMAL with nothing to save, and the release. -/
theorem witness_EjectCompleted :
    let s := cached .dirty true
    let c := cached .valid false
    let r := ejecting .normal .release
    (Unoccupied s ∧ Unoccupied c) ∧
      (∀ x ∈ [s, c, r], (x.unit 0).mounted = some 0 ∧ x.slot 0 = .mounted disk ∧
        (∀ v : DriveId, v ≠ 0 → (x.unit v).mounted ≠ some 0) ∧ x.link.reports.length ≤ 14 ∧ x.wcu.pending = none) ∧
      (∀ x ∈ [s, c], (x.unit 0).media = .ready ∧ x.windowOf 0 = false ∧ x.card.transaction = none ∧
        ∀ b, (x.buffer b).ofUnit 0 = true → (x.buffer b).state = .filling → (x.buffer b).dirtyCount = 0) ∧
      (∀ b, (c.buffer b).ofUnit 0 = true → (c.buffer b).unsettled = false ∧ (c.buffer b).dirtyCount = 0) ∧
      r.eject = some ⟨0, .normal, .release⟩ ∧ r.unitInFlight 0 = false ∧ r.executing = some ⟨5, 7, [0, 1]⟩ ∧
      (r.unit 0).latch = true :=
  ⟨⟨idle_unoccupied _ rfl rfl, idle_unoccupied _ rfl rfl⟩, by decide +kernel⟩

theorem witness_Flushed :
    let clean := cached .valid false
    let s := cached .unsaved true
    (Unoccupied clean ∧ Unoccupied s) ∧ 2 < (3 : Byte).toNat ∧ (2 : Byte).toNat ≤ 2 ∧ clean.eject = none ∧
      (∀ b u, (clean.buffer b).ofUnit u = true → (0 : Byte) = 2 ∨ (0 : Byte) = BitVec.ofNat 8 u.val →
        (clean.buffer b).state ∉ [.dirty, .flushing, .unsaved] ∧ (clean.buffer b).dirtyCount = 0) ∧
      s.eject = none ∧ (s.buffer 0).ofUnit 0 = true ∧ (s.buffer 0).state = .unsaved ∧
      (s.nextFlushBlock 0 0).isSome = true :=
  ⟨⟨idle_unoccupied _ rfl rfl, idle_unoccupied _ rfl rfl⟩, by decide +kernel⟩

/-- The span of the track under the head of unit 0 on `disk`. -/
def diskSpan : Span := ⟨0, 256, 128, 1, [⟨100, 8⟩]⟩

theorem drive_span (s : State) (h : s.units = drive.units) (l : s.slots = drive.slots) (f : s.formats = drive.formats) :
    s.span track = some diskSpan := by
  have e : s.span track = drive.span track := by
    unfold State.span State.image State.unit State.slot
    rw [h, l, f]
  rw [e]
  rfl

/-- The last attempt of a flush service is under way, for FLUSH or for an eject. -/
def saving (x : State) (d : Bool) (stage : Stage) : State :=
  { flying (x.setBuffer 0 { held .flushing d with flushClass := some 2, lastWrite := some 0 }) .writeBlock (.flush 0) stage
      2 with
    cache := { x.cache with service := some ⟨[0], [0], false, none⟩ } }

/-- R173, R134: the service ends with a failure, for FLUSH and for an eject, and well, for FLUSH. -/
theorem witness_Flushed_end :
    let s := saving (running drive 6 [2]) true .awaitResponse
    let e := saving (ejecting .normal .save) true .awaitResponse
    let g := saving (running drive 6 [2]) false .busy
    (((s.buffer 0).key.bind s.span) = some diskSpan ∧ ((e.buffer 0).key.bind e.span) = some diskSpan ∧
        ((g.buffer 0).key.bind g.span) = some diskSpan) ∧
      (∀ x ∈ [s, e, g], x.card.transaction.map Transaction.requester = some (.flush 0) ∧
        x.card.transaction.map Transaction.attempt = some 2 ∧ (x.buffer 0).state = .flushing ∧
        x.cache.service = some ⟨[0], [0], false, none⟩ ∧ x.executing.map Executing.code ≠ some 0x0C ∧
        x.executing.isSome = true ∧ ∀ v ∈ (x.buffer 0).entries, diskSpan.sectorLast v.number ≤ (x.buffer 0).block) ∧
      (∀ x ∈ [s, e, g], MediaConsistent x ∧ RequestsConsistent x ∧ BusConsistent x) ∧
      failureAt .noResponse .awaitResponse = some .noResponse ∧ s.eject = none ∧
      e.eject = some ⟨0, .normal, .save⟩ ∧ e.link.reports.length ≤ 12 ∧
      g.card.transaction.map Transaction.stage = some .busy ∧ (g.buffer 0).attempt.failure = none ∧ g.eject = none ∧
      ∀ c, (g.buffer c).dirtyCount = 0 := by
  intro s e g
  have all : ∀ x ∈ [s, e, g], DriveMedia x ∧ RequestsConsistent x ∧ BusConsistent x := by
    have m : ∀ x ∈ [s, e, g], DriveMedia x := by decide +kernel
    have a : ∀ x ∈ [s, e, g], ArbiterConsistent x := by unfold ArbiterConsistent; decide +kernel
    have c : ∀ x ∈ [s, e, g], CacheConsistent x := by unfold CacheConsistent; decide +kernel
    have u : ∀ x ∈ [s, e, g], BusConsistent x := by unfold BusConsistent; decide +kernel
    exact fun x h => ⟨m x h, ⟨a x h, c x h⟩, u x h⟩
  exact ⟨⟨rfl, rfl, rfl⟩, by decide +kernel, fun x h => ⟨media_of x (all x h).1, (all x h).2⟩, by decide +kernel⟩

theorem witness_CardTransfersPosted :
    let last : List Byte := [0xE7, 3, 0, 0]
    let beyond_ : List Byte := [0xE8, 3, 0, 0]
    let put_ := fun n : Byte => [n, 0, 0, 0] ++ List.replicate 512 (0 : Byte)
    let locked : State := { drive with card := { port with clsw := true, lock := true } }
    (Unoccupied State.reset ∧ Unoccupied loaded ∧ Unoccupied drive ∧ Unoccupied locked) ∧ last.length = 4 ∧
      State.reset.card.state ≠ .ready ∧ loaded.card.state = .ready ∧ drive.card.state = .ready ∧
      loaded.card.capacity.getD 0 ≤ longAt beyond_ 0 ∧ longAt last 0 < loaded.card.capacity.getD 0 ∧
      (put_ 107).length = 516 ∧ longAt (put_ 107) 0 < drive.card.capacity.getD 0 ∧
      drive.slot 0 = .mounted disk ∧ disk.hasBlock (longAt (put_ 107) 0) = true ∧ (∀ m : SlotId, ¬ m < 0) ∧
      disk.hasBlock (longAt (put_ 108) 0) = false ∧ (∀ m : SlotId, m ≠ 0 → drive.slot m = .vacant) ∧
      drive.card.lock = false ∧ locked.card.lock = true := by
  unfold Unoccupied
  decide +kernel

theorem profile_allowed :
    ¬ ProfileAllowed (profileBytes.set 0 255) ∧ ProfileAllowed profileBytes ∧
      ProfileAllowed (profileBytes.set 15 0) := by
  unfold ProfileAllowed
  and_intros <;> decide +kernel

/-- R124: SEL0 tied inactive; a unit that is not EMPTY; unit 0 disabled while its motor is on. -/
theorem witness_ProfileSet :
    let on : State := { loaded with pins := 0x80 }
    (¬ ProfileAllowed (profileBytes.set 0 255) ∧ ProfileAllowed profileBytes ∧ ProfileAllowed (profileBytes.set 15 0)) ∧
      (Unoccupied drive ∧ Unoccupied loaded ∧ Unoccupied on) ∧
      (∀ n ∈ [0, 15], (profileBytes.set n 0).length = 29) ∧ (drive.unit 0).media ≠ .empty ∧
      (∀ v : DriveId, v < 0 → (drive.unit v).media = .empty) ∧ (∀ u, (loaded.unit u).media = .empty) ∧
      on.motorOn 0 = true ∧ loaded.eject = none ∧ on.eject = none :=
  ⟨profile_allowed, ⟨idle_unoccupied _ rfl rfl, idle_unoccupied _ rfl rfl, idle_unoccupied _ rfl rfl⟩,
    by decide +kernel⟩

/-- No COMMAND frame is under way when none is. -/
theorem no_command (s : State) (h : s.link.frame = none) (ps : List Byte) : s.link.frame ≠ some (.command ps) := by
  rw [h]
  exact nofun

theorem witness_StatusByteBits :
    (queued [⟨7, 9, []⟩, ⟨7, 9, []⟩, ⟨7, 9, []⟩] 0).link.commands.length ≤ 3 ∧ loaded.link.frame = none ∧
      (framed (some (.opening 0x41))).link.frame = some (.opening 0x41) ∧
      (∃ t, exec (.status (0 + 1)) loaded = .next t) ∧
      ∃ t, exec (.status (0 + 1)) (framed (some (.opening 0x41))) = .next t :=
  ⟨by decide, rfl, rfl, ⟨_, rfl⟩, _, rfl⟩

/-- Before byte 0, with MSEL negated and asserted; beyond a frame; inside one that is a COMMAND, and one that is not. -/
theorem witness_PlainFrames :
    OpensWith (framed none) (framed none).statusByte ∧ OpensWith (framed (some (.opening 0x41))) 0x41 ∧
      3 < (4 : Byte).toNat ∧ (3 : Byte).toNat ≤ 3 ∧ (framed none).link.frame = none ∧
      (framed (some (.opening 0x41))).link.frame ≠ none ∧ (framed (some .beyond)).link.frame = some .beyond ∧
      (framed (some (.reply [1] true))).link.frame = some (.reply [1] true) ∧
      (∀ st, Frame.reply [1] true ≠ .opening st) ∧
      (framed (some (.command [9, 5]))).link.frame = some (.command [9, 5]) ∧
      ∀ ps, (framed none).link.frame ≠ some (.command ps) :=
  ⟨.inl ⟨rfl, rfl⟩, .inr rfl, by decide, by decide, rfl, nofun, rfl, rfl, nofun, rfl, no_command _ rfl⟩

/-- A whole frame of 520 parameters, and one that goes on in its last parameter; two commands queued, and three; a length
of 521; a frame that ends early. -/
theorem witness_CommandFramed :
    let full : List Byte := List.replicate 520 0
    let part : List Byte := [7, 9, 1, 0]
    OpensWith (queued [] 0) (queued [] 0).statusByte ∧
      (framed (some (.command part))).link.frame = some (.command part) ∧
      part ++ [3] = 7 :: 9 :: 1 :: 0 :: ([3] ++ []) ∧ (part.length < 4 + 1) ∧
      (8 : Byte).toNat + 256 * (2 : Byte).toNat = full.length ∧ full.length ≤ 520 ∧
      (queued [⟨7, 9, []⟩, ⟨7, 9, []⟩] 0).link.commands.length < 3 ∧
      3 ≤ (queued [⟨7, 9, []⟩, ⟨7, 9, []⟩, ⟨7, 9, []⟩] 0).link.commands.length ∧
      520 < (9 : Byte).toNat + 256 * (2 : Byte).toNat ∧
      ([0] : List Byte).length < (2 : Byte).toNat + 256 * (0 : Byte).toNat ∧
      (2 : Byte).toNat + 256 * (0 : Byte).toNat ≤ 520 :=
  ⟨.inl ⟨rfl, rfl⟩, rfl, by decide +kernel⟩

theorem witness_ReplyFetched :
    OpensWith (queued [] 1) (queued [] 1).statusByte ∧ OpensWith (framed (some (.opening 0x41))) 0x41 ∧
      (queued [] 1).link.replies = ⟨7, 9, .ok, []⟩ :: [] ∧ (queued [] 0).link.replies = [] ∧
      4 < ([7, 9, ResultCode.ok.byte, 0, 0] : List Byte).length ∧
      (framed (some (.reply [5] true))).link.frame = some (.reply [5] true) ∧ ([5] : List Byte) ≠ [] :=
  ⟨.inl ⟨rfl, rfl⟩, .inr rfl, rfl, rfl, by decide, rfl, by decide⟩

/-- `loaded` with some reports in the queue. -/
def reporting (n : Nat) : State :=
  linked { loaded.link with reports := List.replicate n ⟨.cardReady, none, none, none, none, 0⟩ }

/-- Room for one report, and none; all sixteen reports fetched; the last of two cut off before its last byte. -/
theorem witness_ReportsFetched :
    let c := fun (w : Byte) (n : Nat) => min (min w.toNat 16) (reporting n).link.reports.length
    OpensWith (reporting 2) (reporting 2).statusByte ∧ OpensWith (framed (some (.opening 0x41))) 0x41 ∧
      (reporting 15).link.reports.length < 16 ∧ 16 ≤ (reporting 16).link.reports.length ∧
      (List.replicate 113 (0 : Byte)).length = 1 + 7 * c 255 16 ∧ 0 < c 2 2 ∧
      (List.replicate 14 (0 : Byte)).length < 1 + 7 * c 2 2 ∧
      1 + 7 * (c 2 2 - 1) ≤ (List.replicate 14 (0 : Byte)).length :=
  ⟨.inl ⟨rfl, rfl⟩, .inr rfl, by decide +kernel⟩

theorem witness_CardStarted :
    State.reset.card.state = .absent ∧ State.reset.card.cdet ≠ true ∧
      (carded { CardPort.reset with cdet := true, detectFrom := some 0 }).card.state = .absent ∧
      (carded { CardPort.reset with cdet := true, detectFrom := some 0 }).card.detectFrom = some 0 ∧
      (∀ e ∈ [StartupExchange.resetCard, .leaveIdle, .identify, .readCapacity],
        (carded (starting e)).card.exchange = some (e, 0) ∧ (carded (starting e)).card.startFrom = some 0) := by
  decide +kernel

/-- A READY card with one request. -/
def asking (r : Request) : State := carded { port with requests := [r] }

/-- A drive whose buffer is sent to the card. -/
def sending (r : Request) : State :=
  { cached .flushing true with card := { port with requests := [r] } }

/-- A read, a write of the panel's, and a write of a flush; no READY card, a transaction in flight, no request. -/
theorem witness_RequestGranted :
    let panel : Request := ⟨.writeBlock, 9, .panel, 3, 1, none⟩
    let flush : Request := ⟨.writeBlock, 100, .flush 0, 4, 1, none⟩
    (sending flush).span track = some diskSpan ∧ ((sending flush).buffer 0).key = some track ∧
      (∀ s ∈ [asked, asking panel, sending flush], s.card.state = .ready ∧ s.card.transaction = none ∧
        s.card.requests ≠ [] ∧ s.resetWaits = false ∧ s.releaseDue = false) ∧
      (asking panel).card.requests = [panel] ∧ (sending flush).card.requests = [flush] ∧
      State.reset.card.state ≠ .ready ∧ (flying asked .merge (.flush 0) .busy 1).card.transaction ≠ none ∧
      loaded.card.requests = [] :=
  ⟨drive_span _ rfl rfl rfl, by decide +kernel⟩

/-- The transaction of `flying`. -/
def flight (kind : TransKind) (q : Requester) (stage : Stage) (attempt : Nat) : Transaction :=
  ⟨kind, 100, q, stage, 0, attempt, none, false⟩

/-- A block of zeros whose check is not 0 ends an attempt. -/
theorem zeros_fail : failureAt (.readPhaseEnd zeros 1) .receiving = some .dataCheck := by
  have h : crc 0 zeros = 0 := zeros_check 512
  have n : zeros.length = 512 := List.length_replicate
  show (if zeros.length = 512 ∧ crc 0 zeros ≠ 1 then some Result.dataCheck else none) = _
  rw [h, n]
  decide

theorem witness_TransactionStages :
    let s := fun (k : TransKind) (g : Stage) => flying loaded k .panel g 1
    failureAt (.readPhaseEnd zeros 1) .receiving = some .dataCheck ∧
      (∀ k ∈ [TransKind.readBlock, .writeBlock, .merge], ∀ g ∈ [Stage.awaitBlock, .receiving, .awaitAnswer, .sending,
        .awaitResponse, .busy], (s k g).card.transaction = some (flight k .panel g 1)) ∧
      loaded.card.transaction = none ∧
      (flying (carded { port with scratch := some [] }) .writeBlock .panel .sending 1).card.scratch = some [] ∧
      failureAt .noResponse .awaitBlock = some .noResponse ∧ failureAt .noResponse .awaitResponse = some .noResponse ∧
      failureAt .busyTimeout .busy = some .busyTimeout ∧
      failureAt (.writeCommandAnswer false) .awaitAnswer = some .writeRejected ∧
      failureAt (.dataResponse .checkFailed) .sending = some .dataCheck ∧
      failureAt (.dataResponse .refused) .awaitResponse = some .writeRejected :=
  ⟨zeros_fail, by decide +kernel⟩

theorem witness_PanelTransferEnds :
    let s := fun (k : TransKind) (g : Stage) (a : Nat) => running (flying drive k .panel g a) 2 []
    (∀ k g a, NoHold (s k g a) ∧ (s k g a).executing = some ⟨2, 7, []⟩ ∧
        (s k g a).card.transaction = some (flight k .panel g a)) ∧
      (zeros.length = 512 ∧ crc 0 zeros = 0) ∧ (2 : Byte) ≠ 0x0C ∧
      failureAt (.readPhaseEnd zeros 1) .receiving = some .dataCheck ∧
      failureAt .busyTimeout .busy = some .busyTimeout :=
  ⟨fun _ _ _ => ⟨noHold_of_none _ rfl, rfl, rfl⟩, ⟨List.length_replicate, zeros_check 512⟩, by decide, zeros_fail, rfl⟩

theorem witness_MergeTaken :
    let s := flying (cached .flushing true) .merge (.flush 0) .receiving 1
    s.card.transaction = some (flight .merge (.flush 0) .receiving 1) ∧ zeros.length = 512 ∧ crc 0 zeros = 0 ∧
      (s.buffer 0).key = some track ∧ s.span track = some diskSpan :=
  ⟨rfl, List.length_replicate, zeros_check 512, by decide +kernel, drive_span _ rfl rfl rfl⟩

theorem witness_CardRemoved :
    let s := running (cached .dirty true) 6 [2]
    State.reset.card.state = .absent ∧ s.card.state ≠ .absent ∧ s.resetWaits = false ∧ s.link.reports.length ≤ 12 ∧
      (s.selected 0 = true → s.selected 1 = true → s.conflict = .conflict) ∧
      (carded (starting .identify)).card.state ≠ .absent ∧ (carded (starting .identify)).resetWaits = false := by
  decide +kernel

/-- The default profile's pins, in a state that has it. -/
theorem own_pins (s : State) (h : s.profile = Profile.default) :
    OnOwnPin s (selectInput 0) 5 ∧ OnOwnPin s (motorInput 0) 7 ∧ OnOwnPin s .step 1 ∧ OnOwnPin s .dir 2 ∧
      OnOwnPin s .side 4 ∧ OnOwnPin s .wgate 3 ∧ OnOwnPin s .wdata 0 := by
  obtain ⟨a, -, b, -, c, d, e, f, g⟩ := default_own s h
  exact ⟨a, b, c, d, e, f, g⟩

/-- Both units enabled, unit 1 selected as well as asserted. -/
def twin (window : Option Window) : State :=
  { drive with
    pins := 0xC0
    profile := { drive.profile with enables := #v[true, true] }
    wcu := { Wcu.reset with window := window } }

/-- A window of unit 1. -/
def foreign : Window := ⟨⟨1, 0, 0⟩, false, true⟩

theorem twin_own : OnOwnPin (twin none) (selectInput 0) 5 ∧ OnOwnPin (twin (some foreign)) (selectInput 0) 5 := by
  refine ⟨⟨rfl, fun j => ?_⟩, rfl, fun j => ?_⟩ <;> cases j <;> decide +kernel

/-- Unit 0 is deselected; it is selected beside unit 1, with no window open and with one. -/
theorem witness_SelectionChanged :
    OnOwnPin drive (selectInput 0) 5 ∧ NoHold drive ∧
      (OnOwnPin (twin none) (selectInput 0) 5 ∧ OnOwnPin (twin (some foreign)) (selectInput 0) 5) ∧
      (∀ w, NoHold (twin w)) ∧ (1 : DriveId) ≠ 0 ∧ drive.enabled 0 = true ∧
      drive.level (selectInput 0) ≠ false ∧ look drive.profile.follows 0 = false ∧
      (∀ w ∈ [none, some foreign], (twin w).conflict = .none ∧ (twin w).selected 0 = false ∧
        (twin w).selected 1 = true ∧ (twin w).enabled 0 = true ∧ (twin w).link.reports.length ≤ 12) ∧
      (twin none).wcu.window = none ∧ (twin (some foreign)).wcu.window ≠ none :=
  ⟨(own_pins _ rfl).1, noHold_of_none _ rfl, twin_own, fun _ => noHold_of_none _ rfl, by decide +kernel⟩

theorem witness_SideChanged : OnOwnPin drive .side 4 ∧ NoHold drive ∧ drive.level .side ≠ true :=
  ⟨(own_pins _ rfl).2.2.2.2.1, noHold_of_none _ rfl, by decide +kernel⟩

/-- Unit 0 is spinning up. -/
def spinning : State := drive.setUnit 0 { drive.unit 0 with motor := .spinningUp, spinUpDue := some 9 }

theorem witness_MotorsFollow :
    let s := cached .dirty true
    (NoHold s ∧ NoHold loaded ∧ NoHold spinning) ∧ (OnOwnPin s (motorInput 0) 7 ∧ OnOwnPin loaded (motorInput 0) 7) ∧
      (1 : DriveId) ≠ 0 ∧
      (∀ x ∈ [s, loaded], look x.profile.follows 0 = false ∧ x.enabled 0 = true) ∧
      loaded.level (motorInput 0) = false ∧ (loaded.unit 0).motor = .stopped ∧ s.level (motorInput 0) = true ∧
      s.rotating 0 = true ∧ (s.buffer 0).state = .dirty ∧ (s.buffer 0).ofUnit 0 = true ∧
      s.profile.flushOnStop = true ∧ (s.unit 0).motor ≠ .stopped ∧ (s.nextFlushBlock 0 0).isSome = true ∧
      s.wcu.window = none ∧ s.cache.waiting = [] ∧ (spinning.unit 0).spinUpDue = some 9 ∧
      (spinning.unit 0).motor = .spinningUp ∧ (spinning.unit 0).media ≠ .empty :=
  ⟨⟨noHold_of_none _ rfl, noHold_of_none _ rfl, noHold_of_none _ rfl⟩, ⟨(own_pins _ rfl).2.1, (own_pins _ rfl).2.1⟩,
    by decide +kernel⟩

/-- The head of unit 0 is at the last physical cylinder. -/
def inmost : State := drive.setUnit 0 { drive.unit 0 with cylinder := 81 }

theorem witness_StepTaken :
    (∀ s ∈ [drive, inmost], OnOwnPin s .step 1 ∧ OnOwnPin s .dir 2 ∧ NoHold s) ∧
      (open_ false true none .hunting).level .wgate = true ∧ drive.level .wgate = false ∧
      drive.selected 1 = false ∧ drive.selected 0 = true ∧ (drive.unit 0).cylinder + 1 < drive.profile.physical ∧
      ¬ 0 < (drive.unit 0).cylinder ∧ 0 < (inmost.unit 0).cylinder ∧
      ¬ (inmost.unit 0).cylinder + 1 < inmost.profile.physical := by
  refine ⟨fun s h => ?_, by decide +kernel⟩
  have e : s.profile = Profile.default ∧ s.eject = none := by
    rcases List.mem_pair.mp h with rfl | rfl <;> exact ⟨rfl, rfl⟩
  exact ⟨(own_pins s e.1).2.2.1, (own_pins s e.1).2.2.2.1, noHold_of_none s e.2⟩

/-- The slot of unit 0 is protected. -/
def guarded : State := { drive with slots := put drive.slots 0 (.mounted { disk with prot := true }) }

theorem witness_WindowOpened :
    OnOwnPin drive .wgate 3 ∧ OnOwnPin guarded .wgate 3 ∧ OnOwnPin loaded .wgate 3 ∧
      (NoHold drive ∧ NoHold guarded ∧ NoHold loaded) ∧ (1 : DriveId) ≠ 0 ∧
      (∀ s ∈ [drive, guarded, loaded], s.wcu.window = none) ∧
      (∀ s ∈ [drive, guarded], s.level .wgate = false ∧ s.selected 0 = true ∧ s.selected 1 = false ∧
        (s.unit 0).media = .ready ∧ (s.unit 0).motor = .atSpeed ∧ s.format 0 = some tiny ∧ s.link.reports.length < 16) ∧
      (drive.slotProtected 0 || drive.card.lock) = false ∧ (guarded.slotProtected 0 || guarded.card.lock) = true ∧
      (∀ u v : DriveId, v ≠ u → loaded.selected u = true → loaded.selected v = false →
        (loaded.unit u).media ≠ .ready ∨ (loaded.unit u).motor ≠ .atSpeed) ∧
      ({ drive with pins := 0xA8 } : State).level .wgate = true :=
  ⟨(own_pins _ rfl).2.2.2.2.2.1, (own_pins _ rfl).2.2.2.2.2.1, (own_pins _ rfl).2.2.2.2.2.1,
    ⟨noHold_of_none _ rfl, noHold_of_none _ rfl, noHold_of_none _ rfl⟩, by decide +kernel⟩

/-- An entry of a format capture that fits the track of `track`. -/
def fits (n : Byte) (d : DataState) : FormatEntry := ⟨some 0, some 0, some n, some 0, true, d⟩

/-- A format capture of some entries. -/
def passed_ (es : List FormatEntry) (overflow : Bool) : FormatCapture :=
  { Wcu.reset.fmt with entries := es, overflow := overflow }

/-- A format pass over the whole track. -/
def whole : FormatCapture := passed_ [fits 2 (.uniform 0xE5), fits 1 (.uniform 0xE5)] false

/-- A format pass of the track under the head is under way in a window, beside a certain buffer 0. -/
def formatting (x : FormatCapture) (b : Buffer) (pending : Option Capture) : State :=
  let s := open_ false true none .format
  ({ s with wcu := { s.wcu with fmt := x, pending := pending } } : State).setBuffer 0 b

/-- A capture of the track under the head. -/
def capture : Capture := ⟨track, none, .format [(1, 0xE5)]⟩

/-- In the midst of a field; a format pass that is rejected, and passes that are accepted over a buffer that holds the
track, over one that fills, over none, and over none with another capture pending; an eject that waits. -/
theorem witness_WindowClosed :
    let window : Window := ⟨track, false, true⟩
    let field := open_ false true none .field
    let bad := formatting (passed_ [] false) Buffer.free none
    let onto := fun st : BufState => formatting whole (held st false) none
    let alone := formatting whole Buffer.free none
    let behind := formatting whole Buffer.free (some capture)
    let e : State := { ejecting .force .hold with pins := 0xA8, wcu := heldWcu }
    let lost : State :=
      { ejecting .force .hold with pins := 0xA8, wcu := { heldWcu with capture := .format, fmt := whole } }
    (∀ s ∈ [field, bad, onto .valid, onto .filling, alone, behind], OnOwnPin s .wgate 3 ∧ NoHold s) ∧
      (∀ s ∈ [field, bad, onto .valid, onto .filling, alone, behind, e, lost], MediaConsistent s) ∧
      (∀ s ∈ [field, bad, onto .valid, onto .filling, alone, behind],
        s.wcu.window = some window ∧ s.level .wgate = true ∧ s.link.reports.length < 15 ∧ s.format 0 = some tiny) ∧
      field.wcu.capture = .field ∧ (∀ s ∈ [bad, onto .valid, onto .filling, alone, behind], s.wcu.capture = .format) ∧
      rejection tiny window bad.wcu.fmt.cut = some (1, none) ∧
      (∀ s ∈ [onto .valid, alone, lost], rejection tiny window s.wcu.fmt.cut = none) ∧
      ((onto .valid).holder track = some 0 ∧ ((onto .valid).buffer 0).state.resident = true) ∧
      ((onto .filling).holder track = some 0 ∧ ((onto .filling).buffer 0).state = .filling) ∧
      (alone.holder track = none ∧ (alone.unit 0).media ≠ .ejecting ∧ alone.wcu.pending = none) ∧
      (behind.holder track = none ∧ behind.wcu.pending ≠ none) ∧
      (∀ s ∈ [e, lost], s.wcu.window = some window ∧ s.wcu.ejectHoldDue = some 8000000 ∧ s.format 0 = some tiny ∧
        (s.unit 0).media = .ejecting ∧ s.link.reports.length < 15) ∧
      lost.wcu.capture = .format ∧ lost.holder track = none := by
  intro window field bad onto alone behind e lost
  have media : ∀ s ∈ [field, bad, onto .valid, onto .filling, alone, behind, e, lost], DriveMedia s := by decide +kernel
  refine ⟨fun s h => ?_, fun s h => media_of s (media s h), by decide +kernel⟩
  have e : s.profile = Profile.default ∧ s.eject = none := by
    simp only [List.mem_cons, List.not_mem_nil, or_false] at h
    rcases h with rfl | rfl | rfl | rfl | rfl | rfl <;> exact ⟨rfl, rfl⟩
  exact ⟨(own_pins s e.1).2.2.2.2.2.1, noHold_of_none s e.2⟩

/-- R132: an eject in HOLD while the window is open, with a buffer 0. -/
def holding (mode : EjectMode) (b : Buffer) (fmt : Option FormatCapture) : State :=
  ({ ejecting mode .hold with
      pins := 0xA8
      wcu := { heldWcu with capture := if fmt.isSome then .format else .hunting, fmt := fmt.getD Wcu.reset.fmt } } :
    State).setBuffer 0 b

/-- A NORMAL eject with a DIRTY buffer, with one that a format pass makes dirty, and with nothing to save; a FORCE one,
with a fill in flight and without. -/
theorem witness_WindowClosed_hold :
    let dirty := holding .normal { held .dirty true with lastWrite := some 0 } none
    let accepted := holding .normal (held .valid false) (some whole)
    let nothing := holding .normal (held .valid false) none
    let force := holding .force Buffer.free none
    let flight := flying (holding .force { held .filling false with fillClass := some 1, fate := .dropped } none)
      .readBlock (.fill 0) .receiving 1
    (∀ s ∈ [dirty, accepted, nothing, force, flight], OnOwnPin s .wgate 3) ∧
      (∀ s ∈ [dirty, accepted, nothing, force, flight], MediaConsistent s) ∧
      (∀ s ∈ [dirty, accepted, nothing, force, flight], RequestsConsistent s) ∧
      (∀ s ∈ [dirty, accepted, nothing, force, flight], BusConsistent s) ∧
      (∀ s ∈ [dirty, accepted, nothing, force, flight],
        s.wcu.window = some ⟨track, false, true⟩ ∧ s.executing = some ⟨5, 7, [0, 1]⟩ ∧ s.level .wgate = true ∧
          s.wcu.ejectHoldDue = some 8000000) ∧
      (∀ s ∈ [dirty, accepted, nothing], s.eject = some ⟨0, .normal, .hold⟩) ∧
      (∀ s ∈ [force, flight], s.eject = some ⟨0, .force, .hold⟩) ∧
      ((dirty.buffer 0).ofUnit 0 = true ∧ (dirty.buffer 0).state = .dirty ∧ (dirty.nextFlushBlock 0 0).isSome = true) ∧
      (accepted.wcu.capture = .format ∧ accepted.format 0 = some tiny ∧
        rejection tiny ⟨track, false, true⟩ accepted.wcu.fmt.cut = none ∧ accepted.holder track = some 0 ∧
        (accepted.buffer 0).state.resident = true) ∧
      nothing.wcu.capture ≠ .format ∧ (∀ b, (nothing.buffer b).state ∉ [.dirty, .flushing, .unsaved]) ∧
      force.unitInFlight 0 = false ∧ flight.unitInFlight 0 = true := by
  intro dirty accepted nothing force flight
  have media : ∀ s ∈ [dirty, accepted, nothing, force, flight], DriveMedia s := by decide +kernel
  have profile : ∀ s ∈ [dirty, accepted, nothing, force, flight], s.profile = Profile.default := by decide +kernel
  have arbiter : ∀ s ∈ [dirty, accepted, nothing, force, flight], ArbiterConsistent s := by
    unfold ArbiterConsistent
    decide +kernel
  have cache : ∀ s ∈ [dirty, accepted, nothing, force, flight], CacheConsistent s := by
    unfold CacheConsistent
    decide +kernel
  exact ⟨fun s h => (own_pins s (profile s h)).2.2.2.2.2.1, fun s h => media_of s (media s h),
    fun s h => ⟨arbiter s h, cache s h⟩, by unfold BusConsistent; decide +kernel, by decide +kernel⟩

/-- Intervals at both ends of the band of MFM at 250 kbit/s (R88), and outside: 1,024 to 2,303 and 511 units; a protected
window, which has no period (R79, R80). -/
theorem witness_IntervalSeparated :
    let s := open_ false true (some 0) .field
    let first := open_ false false none .hunting
    let format := open_ false true (some 0) .format
    let prot : State := { drive with pins := 0xA8, wcu := { Wcu.reset with window := some ⟨track, true, true⟩ } }
    let n := fun ticks : Nat => (2 * (16 * min 65535 ticks) + 512) / (2 * 512)
    (∀ x ∈ [s, first, format, prot], OnOwnPin x .wdata 0 ∧ NoHold x) ∧
      (∀ x ∈ [s, first, format, prot], BusConsistent x ∧ (x.unit 0).motor = .atSpeed ∧ x.format 0 = some tiny ∧
        x.rotating 0 = true ∧
        (x.unit 0).rotationStart ≤ x.now ∧ x.link.reports.length < 16) ∧
      (∀ x ∈ [s, first, format], x.wcu.window = some ⟨track, false, true⟩ ∧ x.wcu.period = some 512) ∧
      (∀ x ∈ [s, format], x.wcu.refEdge = some 0 ∧ x.wcu.locked = true) ∧
      (first.wcu.refEdge = none ∧ first.wcu.locked = false) ∧ s.wcu.capture = .field ∧ format.wcu.capture = .format ∧
      (prot.wcu.window = some ⟨track, true, true⟩ ∧ prot.wcu.period = none) ∧ tiny.enc = .mfm ∧ 0 < tiny.rate ∧
      (2 ≤ n 48 ∧ n 48 ≤ 4) ∧ (2 ≤ n 143 ∧ n 143 ≤ 4) ∧ ¬ (2 ≤ n 47 ∧ n 47 ≤ 4) ∧ ¬ (2 ≤ n 144 ∧ n 144 ≤ 4) ∧
      ¬ (2 ≤ n 70000 ∧ n 70000 ≤ 4) := by
  refine ⟨fun x h => ?_, by unfold BusConsistent; decide +kernel⟩
  have e : x.profile = Profile.default ∧ x.eject = none := by
    simp only [List.mem_cons, List.not_mem_nil, or_false] at h
    rcases h with rfl | rfl | rfl | rfl <;> exact ⟨rfl, rfl⟩
  exact ⟨(own_pins x e.1).2.2.2.2.2.2, noHold_of_none x e.2⟩

/-- The head of unit 0 is settling. -/
def settling : State := drive.setUnit 0 { drive.unit 0 with settleDue := some 5, mode := .quiet }

theorem witness_SettleEnded :
    NoHold settling ∧ BusConsistent settling ∧ (1 : DriveId) ≠ 0 ∧ (drive.unit 0).settleDue = none ∧ (settling.unit 0).settleDue = some 5 ∧
      settling.demand 0 = some track ∧ (settling.unit 0).motor = .atSpeed ∧ settling.wcu.window = none ∧
      settling.cache.waiting = [] ∧ settling.link.reports.length < 16 ∧
      ∀ b, (settling.buffer b).holds track = true → (settling.buffer b).state.resident = false :=
  ⟨noHold_of_none _ rfl, by unfold BusConsistent; decide +kernel⟩

/-- Unit 0 at a bit of its rotation, the track under its head in a buffer. -/
def turned (n : Nat) (hold : Bool) (mode : StreamMode) : State :=
  (cached .valid false).setUnit 0 { drive.unit 0 with bitCount := n, hold := hold, mode := mode }

/-- The last bit of the index region, and the last of the revolution; the other unit demands nothing. -/
theorem witness_RotationAdvanced :
    let l := tiny.rate * 1000 * 60 / tiny.spin
    (1 : DriveId) ≠ 0 ∧ 0 < l ∧
      (∀ n ∈ [499, 49999], ∀ h ∈ [true, false],
        (turned n h .filler).rotating 0 = true ∧ (turned n h .filler).format 0 = some tiny ∧
          (turned n h .filler).demand 1 = none ∧ ((turned n h .filler).unit 0).hold = h ∧
          ((turned n h .filler).unit 0).rotationStart ≤ (turned n h .filler).now) ∧
      ((turned 499 false .filler).unit 0).bitCount % l < tiny.rate * 1000 / 500 ∧ drive.rotating 1 = false ∧
      ∀ u, drive.rotating u = false ∨ loaded.demand u = none := by
  decide +kernel

/-- The bit before a track byte. -/
def before (j : Nat) : Nat := 8 * j - 1

/-- Gap bytes and a hold in the midst of a byte; the bytes of the fields of both sectors: the mark at which one is taken,
and the last, after a hold and without one. -/
theorem witness_BitEmitted :
    let ids := fun k : Nat => tiny.prefixLen + k * tiny.blockLen + tiny.sync
    let datas := fun k : Nat => tiny.prefixLen + k * tiny.blockLen + tiny.dataMarkOffset
    (∀ n m h, ∃ t, exec (.bitBoundary 0) (turned n h m) = .next t) ∧
      (∀ n ∈ [6, 7], ∀ m ∈ [StreamMode.quiet, .filler, .track], ∀ h ∈ [true, false],
        (turned n h m).rotating 0 = true ∧ (turned n h m).format 0 = some tiny ∧ ((turned n h m).unit 0).mode = m ∧
          ((turned n h m).unit 0).hold = h ∧ ((turned n h m).unit 0).bitCount = n) ∧
      ((6 + 1) % 50000 % 8 ≠ 0 ∧ (7 + 1) % 50000 % 8 = 0) ∧ tiny.rate * 1000 * 60 / tiny.spin = 50000 ∧
      (∀ j ∈ [ids 0, ids 1 + tiny.mark + 5, datas 0, datas 1 + tiny.mark + tiny.size + 1],
        (before j + 1) % 50000 % 8 = 0 ∧ (before j + 1) % 50000 / 8 = j) ∧
      (turned 7 false .track).holder ((turned 7 false .track).key 0) = some 0 ∧
      (∀ k ∈ [0, 1], k < tiny.sectors ∧ (((turned 7 false .track).buffer 0).entries[k]?).isSome = true) ∧
      (trackByteAt tiny [] (ids 0)).marked = true ∧ (trackByteAt tiny [] (ids 1 + tiny.mark + 5)).marked = false := by
  refine ⟨fun n m h => ⟨_, rfl⟩, by decide +kernel⟩

/-- A fill of the track under the head whose block is coming. -/
def filling (attempt : Nat) (pending : Option Capture) : State :=
  { flying (drive.setBuffer 0 { held .filling false with fillClass := some 1 }) .readBlock (.fill 0) .receiving
      attempt with
    wcu := { Wcu.reset with pending := pending } }

/-- The same of the second track of side 0, which takes two blocks: a sector of 128 bytes begins at byte 512. -/
def wide : State :=
  { filling 1 none with formats := put drive.formats 0 (some { tiny with sectors := 5 }) }

/-- The other side of unit 0's cylinder. -/
def other : Key := ⟨0, 0, 1⟩

/-- Without a pending record, with one of the key, and with one of another. -/
theorem witness_FillsGoOn :
    (∀ a c, (filling a c).span track = some diskSpan) ∧ (zeros.length = 512 ∧ crc 0 zeros = 0) ∧
      failureAt (.readPhaseEnd zeros 1) .receiving = some .dataCheck ∧
      wide.span track = some ⟨0, 640, 128, 1, [⟨100, 8⟩]⟩ ∧
      (∀ a ∈ [1, 2], ∀ c ∈ [none, some capture, some { capture with key := other }],
        (filling a c).card.transaction = some (flight .readBlock (.fill 0) .receiving a) ∧
          (filling a c).resetWaits = false ∧ ((filling a c).buffer 0).state = .filling ∧
          ((filling a c).buffer 0).fate = .kept ∧ ((filling a c).buffer 0).key = some track ∧
          (filling a c).wcu.window = none ∧ (filling a c).wcu.pending = c ∧ (filling a c).cache.waiting = [] ∧
          (∀ u, look (filling a c).cache.predictions u = none) ∧ ((filling a c).buffer 0).block = 0 ∧
          ((filling a c).buffer 0).fillClass = some 1 ∧ (filling a c).link.reports.length < 15) ∧
      (capture.key = track ∧ other ≠ track) ∧ 0 = (diskSpan.start + diskSpan.length - 1) / 512 ∧
      wide.current 0 = true ∧ (wide.buffer 0).block ≠ (0 + 640 - 1) / 512 :=
  ⟨fun _ _ => drive_span _ rfl rfl rfl, ⟨List.length_replicate, zeros_check 512⟩, zeros_fail, rfl, by decide +kernel⟩

/-- The retries of R49: at the last retry but one, and with none left; the other unit does not turn. -/
theorem witness_FillsGoOn_retries :
    let s := fun retries : Nat => drive.setBuffer 0 { held .unreadable false with fillRetries := retries }
    (∀ r, (s r).span track = some diskSpan) ∧
      (∀ r ∈ [2, 3],
        (s r).rotating 0 = true ∧ (s r).format 0 = some tiny ∧ (s r).demand 0 = some track ∧ (s r).holder track = some 0 ∧
          ((s r).buffer 0).state = .unreadable ∧ ((s r).buffer 0).fillRetries = r ∧ (s r).rotating 1 = false) ∧
      0 < tiny.rate * 1000 * 60 / tiny.spin :=
  ⟨fun _ => drive_span _ rfl rfl rfl, by decide +kernel⟩

/-- R50, R51: the demanded track's only block is copied: two buffers are FREE; none may be taken; the other side, which
would be predicted, is held. -/
theorem witness_FillsGoOn_predicted :
    let beside := fun (x : Buffer) => ((filling 1 none).setBuffer 1 x).setBuffer 2 { held .dirty true with key := some ⟨0, 2, 0⟩ }
    let none_ := beside { held .dirty true with key := some ⟨0, 2, 1⟩ }
    let there := beside { held .valid false with key := some other }
    (∀ s ∈ [filling 1 none, none_, there], s.demand 0 = some track ∧ s.profile.prefetch = true ∧ s.format 0 = some tiny ∧
        s.wcu.window = none ∧ s.cache.waiting = [] ∧ (s.buffer 0).block = 0) ∧
      (tiny.sides = 2 ∧ track.head = 0) ∧
      (∀ s ∈ [filling 1 none, none_], ∀ c, (s.buffer c).holds other = false) ∧ (there.buffer 1).holds other = true ∧
      ((filling 1 none).current 1 = false ∧ ((filling 1 none).buffer 1).state = .free) ∧
      ∀ c, (none_.buffer c).state ∉ [.free, .valid, .unreadable] := by
  decide +kernel

/-- A prefetch fill that has been given up, its block in flight: for the demanded track, which no buffer holds, or
dropped while one does. -/
def givenUp (fate : Fate) (attempt : Nat) : State :=
  let s := drive.setBuffer 0 { held .filling false with key := some other, fillClass := some 5, fate := fate }
  flying (if fate = .dropped then s.setBuffer 1 (held .valid false) else s) .readBlock (.fill 0) .receiving attempt

/-- R45, R61: the transaction of a fill that was dropped, and of one that was promised, ends well and in failure. -/
theorem witness_FillsGoOn_given_up :
    (∀ fate a, (givenUp fate a).span track = some diskSpan) ∧ (zeros.length = 512 ∧ crc 0 zeros = 0) ∧
      (∀ fate ∈ [Fate.dropped, .promised 0], ∀ a ∈ [1, 2],
        (givenUp fate a).card.transaction = some (flight .readBlock (.fill 0) .receiving a) ∧
          (givenUp fate a).resetWaits = false ∧ ((givenUp fate a).buffer 0).state = .filling ∧
          ((givenUp fate a).buffer 0).fate = fate ∧
          (givenUp fate a).cache.waiting = [] ∧ (∀ u, look (givenUp fate a).cache.predictions u = none) ∧
          (∀ c, ((givenUp fate a).buffer c).state ≠ .unreadable) ∧ (givenUp fate a).demand 0 = some track ∧
          (givenUp fate a).format 0 = some tiny) ∧
      failureAt .noResponse .receiving = some .noResponse ∧
      (∀ fate ∈ [Fate.dropped, .promised 0], ∀ a ∈ [1, 2], RequestsConsistent (givenUp fate a)) ∧
      ∀ fate ∈ [Fate.dropped, .promised 0], ∀ a ∈ [1, 2], BusConsistent (givenUp fate a) := by
  have arbiter : ∀ fate ∈ [Fate.dropped, .promised 0], ∀ a ∈ [1, 2], ArbiterConsistent (givenUp fate a) := by
    unfold ArbiterConsistent
    decide +kernel
  have cache : ∀ fate ∈ [Fate.dropped, .promised 0], ∀ a ∈ [1, 2], CacheConsistent (givenUp fate a) := by
    unfold CacheConsistent
    decide +kernel
  exact ⟨fun fate _ => by unfold givenUp; split <;> exact drive_span _ rfl rfl rfl,
    ⟨List.length_replicate, zeros_check 512⟩, by decide +kernel, rfl,
    fun fate h a g => ⟨arbiter fate h a g, cache fate h a g⟩, by unfold BusConsistent; decide +kernel⟩

theorem witness_WriteBackStarted :
    let s := cached .dirty true
    NoHold s ∧ s.span track = some diskSpan ∧ (drive.buffer 0).state ≠ .dirty ∧ (s.buffer 0).state = .dirty ∧
      (s.buffer 0).lastWrite = some 0 ∧ (s.buffer 0).key = some track ∧ s.cache.waiting = [] ∧
      ⟨1, true, List.replicate 128 0x11⟩ ∈ (s.buffer 0).entries ∧ 0 < diskSpan.size ∧
      diskSpan.start / 512 ≤ diskSpan.sectorLast 1 ∧ BusConsistent s :=
  ⟨noHold_of_none _ rfl, drive_span _ rfl rfl rfl, by unfold BusConsistent; decide +kernel⟩

/-- The demand fill of the track under the head waits, and three other tracks of unit 0 stand in the buffers, the one of
buffer 0 the least recent. -/
def crowded (x y z : BufState) (flight : Bool) : State :=
  let parked := fun (st : BufState) (n : Nat) =>
    { held st (st == .dirty) with
      key := some ⟨0, 1 + n / 2, n % 2⟩, recency := some (1 + n)
      fillClass := if st = .filling then some 5 else none, flushClass := if st = .flushing then some 4 else none }
  let s : State :=
    { drive with
      buffers := #v[parked x 0, parked y 1, parked z 2]
      cache := { drive.cache with recency := 3, waiting := [0] } }
  if flight then flying s .readBlock (.fill 0) .receiving 1 else s

/-- A FREE buffer, and none: the least recent of two that may be taken; a prediction. -/
theorem witness_FillsStarted :
    let w : State := { drive with cache := { drive.cache with waiting := [0] } }
    let c := crowded .valid .unreadable .dirty false
    let s := predicted (cached .valid false)
    (NoHold w ∧ NoHold c ∧ NoHold s) ∧ (w.span track = some diskSpan ∧ c.span track = some diskSpan) ∧
      s.span other = some ⟨256, 256, 128, 1, [⟨100, 8⟩]⟩ ∧ (1 : DriveId) ≠ 0 ∧
      (∀ x ∈ [w, c], x.format track.unit = some tiny ∧ (∀ b, (x.buffer b).holds track = false) ∧
        x.cache.waiting = [0] ∧ x.demand 0 = some track) ∧
      ((w.buffer 0).state = .free ∧ ∀ b : BufferId, ¬ b < 0) ∧
      ((∀ b, (c.buffer b).state ≠ .free) ∧ (c.current 0 = false ∧ (c.buffer 0).state = .valid) ∧
        ∀ b, b ≠ 0 → (c.buffer 0).recency.getD 0 < (c.buffer b).recency.getD 0) ∧
      s.format other.unit = some tiny ∧ (∀ b, (s.buffer b).holds other = false) ∧ (s.buffer 1).state = .free ∧
      (∀ b : BufferId, b < 1 → (s.buffer b).state ≠ .free) ∧ s.cache.waiting = [] ∧
      (s.demand 0 ≠ some other ∧ s.demand 1 ≠ some other) ∧ look s.cache.predictions 1 = none ∧
      look s.cache.predictions 0 = some ⟨other, 0⟩ ∧ ∀ x ∈ [w, c, s], BusConsistent x :=
  ⟨⟨noHold_of_none _ rfl, noHold_of_none _ rfl, noHold_of_none _ rfl⟩,
    ⟨drive_span _ rfl rfl rfl, drive_span _ rfl rfl rfl⟩, rfl, by unfold BusConsistent; decide +kernel⟩

/-- No buffer may be taken: the least recent prefetch fill is, in flight and not; the least recent DIRTY buffer is sent;
neither is left. -/
theorem witness_FillsStarted_taken :
    let prefetch := crowded .filling .filling .dirty
    let dirty := crowded .dirty .dirty .flushing false
    let nothing := crowded .flushing .flushing .unsaved false
    (∀ s ∈ [prefetch true, prefetch false, dirty, nothing], NoHold s ∧ s.span track = some diskSpan) ∧
      (∀ s ∈ [prefetch true, prefetch false, dirty, nothing], BusConsistent s ∧ s.format track.unit = some tiny ∧
        s.cache.waiting = [0] ∧ s.demand 0 = some track ∧ s.cache.passDue = false ∧
        ∀ c, (s.buffer c).holds track = false ∧ s.current c = false ∧
          ((s.buffer c).fills = true → (s.buffer c).fillClass = some 5) ∧
          (s.buffer c).state ∉ [.free, .valid, .unreadable] ∧
          (c ≠ 0 → (s.buffer 0).recency.getD 0 < (s.buffer c).recency.getD 0)) ∧
      (∀ f, ((prefetch f).buffer 0).state = .filling ∧ ((prefetch f).buffer 0).fate = .kept) ∧
      (prefetch true).inFlight = some (.fill 0) ∧ (prefetch false).inFlight ≠ some (.fill 0) ∧
      (∀ s ∈ [dirty, nothing], ∀ c, (s.buffer c).state ≠ .filling) ∧ (dirty.buffer 0).state = .dirty ∧
      (dirty.nextFlushBlock 0 0).isSome = true ∧ (∀ c, (nothing.buffer c).state ≠ .dirty) ∧
      (nothing.buffer 2).state ≠ .flushing := by
  refine ⟨fun s h => ?_, by unfold BusConsistent; decide +kernel⟩
  have e : s.units = drive.units ∧ s.slots = drive.slots ∧ s.formats = drive.formats ∧ s.eject = none := by
    simp only [List.mem_cons, List.not_mem_nil, or_false] at h
    rcases h with rfl | rfl | rfl | rfl <;> exact ⟨rfl, rfl, rfl, rfl⟩
  exact ⟨noHold_of_none s e.2.2.2, drive_span s e.1 e.2.1 e.2.2.1⟩

/-- `drive` with a command in front. -/
def driven (i : Instr) : State := { drive with pending := [i] }

/-- Queues at their sizes: three commands, two replies and an executing command. -/
theorem witness_LinkStaysBounded :
    let s : State :=
      { queued [⟨7, 9, []⟩, ⟨7, 9, []⟩, ⟨7, 9, []⟩] 2 with executing := some ⟨2, 9, []⟩, pending := [.cardDetect] }
    LinkBounded s ∧ ∃ t, step s = .next t :=
  ⟨by unfold LinkBounded; decide +kernel, _, rfl⟩

theorem drive_profile (i : Instr) : ProfileValid (driven i) := by
  have pin : ∀ p, drive.pinOf .wdata = some p → p.val ≤ 1 := by
    intro p h
    cases Option.some.inj (show some (0 : InPin) = some p from h)
    decide
  have e : ProfileValid drive := by
    unfold ProfileValid
    and_intros
    on_goal 10 => exact pin
    all_goals decide +kernel
  exact e

theorem witness_ProfileStaysValid : ProfileValid (driven (.step true)) ∧ ∃ t, step (driven (.step true)) = .next t :=
  ⟨drive_profile _, _, rfl⟩

theorem witness_CardStaysConsistent :
    CardConsistent (driven .cardRemoval) ∧ ∃ t, step (driven .cardRemoval) = .next t :=
  ⟨card_of_port _ rfl, _, rfl⟩

theorem drive_media (i : Instr) : MediaConsistent (driven i) := media_of drive (by decide +kernel)

theorem witness_MediaStaysConsistent :
    MediaConsistent (driven .cardRemoval) ∧ ∃ t, step (driven .cardRemoval) = .next t :=
  ⟨drive_media _, _, rfl⟩

theorem witness_StreamsStayConsistent :
    StreamsConsistent (driven (.motorNegate 0)) ∧ MediaConsistent (driven (.motorNegate 0)) ∧
      ∃ t, step (driven (.motorNegate 0)) = .next t := by
  refine ⟨?_, drive_media _, _, rfl⟩
  have e : StreamsConsistent drive := by
    unfold StreamsConsistent ModesTaken
    decide +kernel
  exact e

theorem witness_RequestsStayConsistent :
    let s : State := { cached .valid false with pending := [.sideChange true] }
    RequestsConsistent s ∧ BusConsistent s ∧ MediaConsistent s ∧ ∃ t, step s = .next t :=
  ⟨⟨by unfold ArbiterConsistent; decide +kernel, by unfold CacheConsistent; decide +kernel⟩,
    by unfold BusConsistent; decide +kernel, media_of _ (by decide +kernel), _, rfl⟩

theorem witness_BytesEncoded :
    (∀ p ∈ [(125, 300, 25000), (125, 360, 20833), (250, 300, 50000), (250, 360, 41666), (300, 300, 60000),
        (300, 360, 50000), (500, 300, 100000), (500, 360, 83333)],
      ({ tiny with rate := p.1, spin := p.2.1 } : Format).rate = p.1 ∧
        ({ tiny with rate := p.1, spin := p.2.1 } : Format).spin = p.2.1) ∧ tiny.rate ≠ 300 := by
  decide

/-- Formats whose ranges hold: `tiny`, and one with a list for each side. -/
theorem sound_formats :
    FormatSound tiny ∧ FormatSound { tiny with lists := [[2, 1], [1, 2]] } ∧ FormatSound { tiny with lists := [[2, 1]] } := by
  refine ⟨?_, ?_, ?_⟩ <;> (unfold FormatSound; decide +kernel)

theorem witness_SlotOrderPermutes :
    FormatSound tiny ∧ 1 < tiny.sides ∧ tiny.lists = [] ∧ tiny.interleave = 1 ∧ 1 < tiny.sectors ∧
      FormatSound { tiny with lists := [[2, 1]] } ∧ FormatSound { tiny with lists := [[2, 1], [1, 2]] } :=
  ⟨sound_formats.1, by decide, rfl, rfl, by decide, sound_formats.2.2, sound_formats.2.1⟩

/-- R93: the last bit before the index, with the largest tolerance; a bit that is near a slot. -/
theorem witness_SlotMatchUnique :
    FormatSound tiny ∧ 64 ≤ 64 ∧ 49999 < tiny.revolution ∧ tiny.expected 1 < tiny.revolution ∧
      matchSlot tiny 64 (tiny.expected 1) = some 1 ∧ matchSlot tiny 64 49999 = none ∧ 1 < tiny.sectors :=
  ⟨sound_formats.1, by decide +kernel⟩

/-- Two extents, the first and the last track of an image, and spans that begin and end inside a block. -/
theorem witness_BlocksTranslated :
    ([⟨100, 2⟩, ⟨50, 3⟩] : List Extent).Pairwise
        (fun a b => a.start + a.count ≤ b.start ∨ b.start + b.count ≤ a.start) ∧
      cardBlockIn [⟨100, 2⟩, ⟨50, 3⟩] 4 = some 52 ∧ cardBlockIn [⟨100, 2⟩, ⟨50, 3⟩] 5 = none ∧
      tiny.inside 0 0 = true ∧ tiny.inside 2 1 = true ∧ ((0, 0) : Nat × Nat) ≠ (2, 1) ∧ 0 < tiny.size ∧
      0 < tiny.sectors ∧ spanStart tiny disk 0 1 % 512 ≠ 0 ∧
      (spanStart tiny disk 0 0 + tiny.spanLen) % 512 ≠ 0 := by
  decide

theorem witness_FormatJudged :
    let good := [fits 2 (.uniform 0xE5), fits 1 (.uniform 0xE5)]
    (∀ e ∈ good, ∃ n : Byte, e.sector = some n ∧ tiny.first ≤ n.toNat ∧ n.toNat ≤ tiny.first + tiny.sectors - 1) ∧
      (∀ e ∈ good, ∃ v, e.data = .uniform v) ∧
      (∃ e ∈ [fits 1 .absent, fits 2 .bad], ∀ v, e.data ≠ .uniform v) ∧
      (passed_ good true).overflow = true ∧ (passed_ [] false).overflow = false ∧
      (passed_ [] false).entries.length ≠ tiny.sectors ∧ (passed_ good false).entries.length = tiny.sectors ∧
      (∃ e ∈ [fits 1 .bad, { fits 2 .bad with idGood := false }], ¬ e.idGood = true) ∧
      (∀ e ∈ good, e.idGood = true ∧ e.cylinder = some (BitVec.ofNat 8 track.cylinder) ∧
        e.head = some (BitVec.ofNat 8 track.head) ∧ e.size = some (BitVec.ofNat 8 tiny.sizeCode)) ∧
      ¬ ([fits 1 .bad, fits 1 .bad].map FormatEntry.sector).Nodup ∧ (good.map FormatEntry.sector).Nodup ∧
      tiny.first + tiny.sectors ≤ 256 ∧ 1 ≤ tiny.sectors := by
  have numbered : ∀ e ∈ [fits 2 (.uniform 0xE5), fits 1 (.uniform 0xE5)],
      ∃ n : Byte, e.sector = some n ∧ tiny.first ≤ n.toNat ∧ n.toNat ≤ tiny.first + tiny.sectors - 1 := by
    intro e h
    rcases List.mem_pair.mp h with rfl | rfl
    · exact ⟨2, rfl, by decide⟩
    · exact ⟨1, rfl, by decide⟩
  have filled : ∀ e ∈ [fits 2 (.uniform 0xE5), fits 1 (.uniform 0xE5)], ∃ v, e.data = .uniform v := by
    intro e h
    rcases List.mem_pair.mp h with rfl | rfl <;> exact ⟨_, rfl⟩
  exact ⟨numbered, filled, ⟨fits 1 .absent, List.mem_cons_self .., nofun⟩, by decide⟩

/-- The half-cells of a word, the last on the line first. -/
def line (word : Nat) : List (Option Nat) :=
  (List.range 16).map fun i => if word.testBit i then some (100 - i) else none

/-- The data separator has passed on a word, after so many mark bytes. -/
def seen (word : Nat) (progress : Option MarkProgress) : Wcu :=
  { Wcu.reset with cells := line word, aligned := 15, progress := progress }

theorem witness_FieldsReceived :
    (∀ g ∈ [0x4489, 0x5224], groupOf (seen g none).cells = g ∧ 16 ≤ (seen g none).cells.length ∧
      (seen g none).progress = none) ∧
      (seen 0x4489 (some ⟨.a1, 2, 85⟩)).aligned = 15 ∧ 2 < 3 ∧
      groupOf (seen 0x4489 (some ⟨.a1, 2, 85⟩)).cells = 0x4489 ∧
      groupOf (seen 0x5224 (some ⟨.c2, 2, 85⟩)).cells = 0x5224 ∧
      [0x5545, 0x554A, 0x5554, 0x5552, 0x9254].map (fun g => dataOf (groupOf (seen g none).cells)) =
        [0xFB, 0xF8, 0xFE, 0xFC, 0x4E] ∧
      (∀ g ∈ [0xF57E, 0xF56F, 0xF56A, 0xF77A], groupOf (seen g none).cells = g) := by
  decide +kernel

/-- The end of a field at its 130th byte: inside and outside the image, with and without a slot, the check good and bad
(R97). -/
theorem witness_FieldsReceived_end :
    let s := fun (slot : Option Nat) (r : Word16) (n : Nat) =>
      ({ drive with
          wcu := { Wcu.reset with slot := slot, remainder := some r, fieldBytes := List.replicate n 0 } } : State)
    ((s none 0 128).wcu.fieldBytes ++ [0]).length ≠ tiny.size + 2 ∧
      ((s none 0 129).wcu.fieldBytes ++ [0]).length = tiny.size + 2 ∧ (s none 0 129).wcu.slot = none ∧
      (s (some 1) 0 129).wcu.slot = some 1 ∧ (s (some 1) 0 129).wcu.remainder.map (fun r => crcByte r 0) = some 0 ∧
      (s (some 1) 1 129).wcu.remainder.map (fun r => crcByte r 0) ≠ some 0 ∧
      (⟨track, false, false⟩ : Window).inside = false ∧ (⟨track, false, true⟩ : Window).inside = true := by
  decide +kernel

/-- The gathering of a format pass (R101 to R103): room for one entry, and none; a data mark with no entry and with one;
a pass that is cut in an ID field, in the data of an entry and in data that belongs to none. -/
theorem witness_FieldsReceived_gathered :
    let x := fun (n : Nat) (phase : FormatPhase) (owner : Option Nat) =>
      { passed_ (List.replicate n (fits 1 .absent)) false with phase := some phase, owner := some owner }
    ((x 63 .id none).entries.length < 64 ∧ 64 ≤ (x 64 .id none).entries.length) ∧ 0 < tiny.size ∧
      (List.replicate (tiny.size + 2) (0 : Byte)).length = tiny.size + 2 ∧
      (passed_ [] true).overflow = true ∧ (x 0 .data none).entries = [] ∧ (x 1 .data none).overflow = false ∧
      (x 2 .data none).entries = [fits 1 .absent] ++ [fits 1 .absent] ∧
      ((x 2 .data (some 1)).owner = some (some 1) ∧ (x 2 .data (some 1)).entries[1]? = some (fits 1 .absent) ∧
        (x 2 .data (some 1)).phase = some .data) ∧
      (x 2 .data none).owner = some none ∧ (x 2 .id none).phase = some .id ∧ (x 2 .seeking none).phase = some .seeking := by
  decide +kernel

/-- R107: a format capture comes while a flush waits at block 1 for its first take; the first sector lies in blocks 0 and
1, the second in 1 and 2. The first stays dirty, since nothing else has its block 0 written; the second is carried whole. -/
theorem test_format_capture_before_first_take :
    let p : Span := ⟨256, 1024, 512, 1, [⟨100, 8⟩]⟩
    let x : Buffer := { Buffer.free with state := .flushing, block := 1, entries := [⟨1, true, []⟩, ⟨2, true, []⟩] }
    let y : Buffer := takeFlags p 1 { x with attempt := x.noteCapture capture }
    y.entries.map Entry.dirty = [true, true] ∧
      (takeFlags p 2 { y with block := 2 }).entries.map Entry.dirty = [true, false] := by decide

/-- R55, R107: a format capture comes after the take of block 0; sector 1 lies in block 0, sector 2 in 0 and 1, sector 3
in 1. Sector 1 stays dirty and has block 0 written again, so sector 2 is cleared at the take of its last block. -/
theorem test_format_capture_after_take :
    let p : Span := ⟨128, 768, 256, 1, [⟨100, 8⟩]⟩
    let x : Buffer :=
      { Buffer.free with
        state := .flushing, block := 0, entries := [⟨1, true, []⟩, ⟨2, true, []⟩, ⟨3, true, []⟩]
        attempt := { Attempt.none with lastTake := some 0 } }
    (takeFlags p 1 { x with block := 1, attempt := x.noteCapture capture }).entries.map Entry.dirty =
      [true, false, false] := by decide

theorem witness_CapturesPlaced :
    let c : Capture := ⟨track, some 1, .data 0 (List.replicate 128 0x33)⟩
    let flushing := fun take : Option Nat =>
      drive.setBuffer 0 { held .flushing true with attempt := { Attempt.none with lastTake := take } }
    (∀ take ∈ [none, some 0],
      (flushing take).holder c.key = some 0 ∧ ((flushing take).buffer 0).state = .flushing ∧
        ((flushing take).buffer 0).block = 0 ∧ ((flushing take).buffer 0).attempt.lastTake = take) ∧
    ((cached .valid false).holder c.key = some 0 ∧ ((cached .valid false).buffer 0).state.resident = true) ∧
      ((cached .unreadable false).holder c.key = some 0 ∧ ((cached .unreadable false).buffer 0).state = .unreadable) ∧
      ((cached .filling false).holder c.key = some 0 ∧ ((cached .filling false).buffer 0).state = .filling) ∧
      drive.holder c.key = none ∧ (drive.unit c.key.unit).media ≠ .ejecting ∧
      (ejecting .normal .save).holder c.key = none ∧ ((ejecting .normal .save).unit c.key.unit).media = .ejecting ∧
      drive.wcu.pending = none ∧
      ({ drive with wcu := { Wcu.reset with pending := some c } } : State).wcu.pending = some c ∧
      c.body = .data 0 (List.replicate 128 0x33) ∧
      capture.body = .format [(1, 0xE5)] ∧ ([(1, 0xE5)] : List (Nat × Byte)).find? (fun v => v.1 = 1) = some (1, 0xE5) ∧
      ([(1, 0xE5)] : List (Nat × Byte)).find? (fun v => v.1 = 2) = none := by
  decide +kernel

/-- Attempts that end well and badly, at two and three earlier failures (R56, R57). -/
theorem witness_FlushAttemptEnded :
    let s := fun (d : Bool) (failures : Nat) (bad : Option (Nat × Result)) =>
      drive.setBuffer 0 { held .flushing d with
        lastWrite := some 0, flushFailures := failures, flushClass := some 4, attempt := ⟨[], [], bad, none, none⟩ }
    let e : Nat × Result := (0, .noResponse)
    (∀ d ∈ [true, false], ∀ n ∈ [2, 3], ∀ r ∈ [none, some e],
      ((s d n r).buffer 0).key = some track ∧ (s d n r).link.reports.length ≤ 14 ∧
        ((s d n r).buffer 0).attempt.failure = r ∧ ((s d n r).buffer 0).flushFailures ≤ 3 ∧
        ((s d n r).buffer 0).lastWrite = some 0 ∧ (s d n r).now < 0 + (s d n r).profile.writeBack * 16000) ∧
      (∀ x ∈ ((s false 2 none).buffer 0).entries, x.dirty = false) ∧
      (∃ x ∈ ((s true 2 none).buffer 0).entries, x.dirty = true) := by
  decide +kernel

/-- The flush of a track of five sectors over two blocks, the last one's flag set, with the first block in flight. -/
def midway (stage : Stage) : State :=
  let es := (List.range 5).map fun i : Nat => (⟨1 + i, i == 4, List.replicate 128 0x11⟩ : Entry)
  flying
    ({ drive with formats := put drive.formats 0 (some { tiny with sectors := 5 }) }.setBuffer 0
      { held .flushing true with
        entries := es, flushClass := some 4, attempt := { Attempt.none with lastTake := some 0, cleared := [1] } })
    .writeBlock (.flush 0) stage 2

/-- R54, R55: a block that is not the attempt's last ends well, and in final failure. -/
theorem witness_FlushAttemptEnded_goes_on :
    let p : Span := ⟨0, 640, 128, 1, [⟨100, 8⟩]⟩
    (∀ stage, (midway stage).span track = some p) ∧
      (∀ stage ∈ [Stage.busy, .awaitResponse],
        (midway stage).card.transaction = some (flight .writeBlock (.flush 0) stage 2) ∧
          (midway stage).resetWaits = false ∧ ((midway stage).buffer 0).state = .flushing ∧
          ((midway stage).buffer 0).key = some track ∧ (midway stage).eject = none ∧
          (midway stage).cache.service = none ∧ (midway stage).cache.waiting = [] ∧ ((midway stage).buffer 0).block = 0 ∧
          ∃ d ∈ ((midway stage).buffer 0).entries, d.dirty = true ∧ max (0 + 1) (0 / 512) ≤ p.sectorLast d.number) ∧
      failureAt .noResponse .awaitResponse = some .noResponse ∧
      (∀ stage ∈ [Stage.busy, .awaitResponse], RequestsConsistent (midway stage)) ∧
      ∀ stage ∈ [Stage.busy, .awaitResponse], BusConsistent (midway stage) := by
  have arbiter : ∀ stage ∈ [Stage.busy, .awaitResponse], ArbiterConsistent (midway stage) := by
    unfold ArbiterConsistent
    decide +kernel
  have cache : ∀ stage ∈ [Stage.busy, .awaitResponse], CacheConsistent (midway stage) := by
    unfold CacheConsistent
    decide +kernel
  exact ⟨fun _ => rfl, by decide +kernel, rfl, fun stage h => ⟨arbiter stage h, cache stage h⟩,
    by unfold BusConsistent; decide +kernel⟩

/-- R121: no unit, unit 0, unit 1 and both selected. -/
theorem witness_OutputsCombined :
    let s := fun pins : BitVec 9 =>
      ({ drive with
          pins := pins
          profile := { drive.profile with enables := #v[true, true], outputs := put drive.profile.outputs 5 .asserted } } :
        State)
    ({ drive with resetPin := true } : State).resetPin = true ∧ (s 0).resetPin = false ∧
      look (s 0).profile.outputs 5 = .asserted ∧ look drive.profile.outputs 5 = .negated ∧
      look (s 0).profile.outputs 0 = .rdata ∧ ((s 0x00).selected 0 = false ∧ (s 0x00).selected 1 = false) ∧
      ((s 0x20).selected 0 = true ∧ (s 0x20).selected 1 = false) ∧
      ((s 0x40).selected 0 = false ∧ (s 0x40).selected 1 = true) ∧
      ((s 0x60).selected 0 = true ∧ (s 0x60).selected 1 = true) := by
  decide +kernel

end Sys2Proof.Tests
end

section
/-! PROOFS. What O47 speaks of, and what leaves it as it is: the Track Cache, the Write Capture Unit, the rotation, the
read streams and the link keep units' media, slots, formats, the eject record and every waiting item. -/

namespace Sys2Proof.Machine

open Sys2Proof.Safety

/-! ### What the media invariant looks at -/

/-- The Command Processor's own request waits in the arbiter's list. -/
def panelAsks (s : State) : Prop := ∃ r ∈ s.card.requests, r.requester = .panel

/-- What `MediaConsistent` looks at is as it was. A latch may be cleared while the unit is READY (R119), and a request of
the panel may leave the arbiter's list. -/
structure MediaKept (s t : State) : Prop where
  media : ∀ u, (t.unit u).media = (s.unit u).media
  mounted : ∀ u, (t.unit u).mounted = (s.unit u).mounted
  latch : ∀ u, (s.unit u).media ≠ .ready → (s.unit u).latch = true → (t.unit u).latch = true
  slots : t.slots = s.slots
  formats : t.formats = s.formats
  enables : t.profile.enables = s.profile.enables
  eject : t.eject = s.eject
  executing : t.executing = s.executing
  service : t.cache.service.isSome = s.cache.service.isSome
  inFlight : t.inFlight = s.inFlight
  panel : panelAsks t → panelAsks s

namespace MediaKept

theorem refl (s : State) : MediaKept s s :=
  ⟨fun _ => rfl, fun _ => rfl, fun _ _ h => h, rfl, rfl, rfl, rfl, rfl, rfl, rfl, id⟩

theorem trans {s t x : State} (h : MediaKept s t) (k : MediaKept t x) : MediaKept s x where
  media u := (k.media u).trans (h.media u)
  mounted u := (k.mounted u).trans (h.mounted u)
  latch u m l := k.latch u (by rwa [h.media u]) (h.latch u m l)
  slots := k.slots.trans h.slots
  formats := k.formats.trans h.formats
  enables := k.enables.trans h.enables
  eject := k.eject.trans h.eject
  executing := k.executing.trans h.executing
  service := k.service.trans h.service
  inFlight := k.inFlight.trans h.inFlight
  panel := h.panel ∘ k.panel

theorem panelWaits {s t : State} (h : MediaKept s t) : Safety.panelWaits t → Safety.panelWaits s :=
  Or.imp (by rw [h.inFlight]; exact id) h.panel

end MediaKept

/-- A frame of an event keeps the media, where the flush service and the panel's requests are kept. -/
theorem EventFrame.kept {s t : State} (h : EventFrame s t) (service : t.cache.service.isSome = s.cache.service.isSome)
    (panel : panelAsks t → panelAsks s) : MediaKept s t where
  media u := by rw [h.units u]
  mounted u := by rw [h.units u]
  latch u _ l := by rw [h.units u]; exact l
  slots := h.slots
  formats := h.formats
  enables := by rw [h.profile]
  eject := h.eject
  executing := h.executing
  service := service
  inFlight := by rw [State.inFlight, State.inFlight, h.card]
  panel := panel

/-- A change of the Card Port keeps the media, where the requester in flight and the panel's requests are kept. -/
theorem mapCard_kept (s : State) (g : CardPort → CardPort)
    (inFlight : (g s.card).transaction.map Transaction.requester = s.inFlight)
    (panel : panelAsks (s.mapCard g) → panelAsks s) : MediaKept s (s.mapCard g) :=
  ⟨fun _ => rfl, fun _ => rfl, fun _ _ h => h, rfl, rfl, rfl, rfl, rfl, rfl, inFlight, panel⟩

theorem foldl_kept {α : Type} (g : State → α → State) (h : ∀ s x, MediaKept s (g s x)) (xs : List α) (s : State) :
    MediaKept s (xs.foldl g s) := by
  induction xs generalizing s with
  | nil => exact .refl s
  | cons x xs ih => exact (h s x).trans (ih _)

theorem ite_kept {p : Prop} [Decidable p] {s a b : State} (h : MediaKept s a) (k : MediaKept s b) :
    MediaKept s (if p then a else b) := by
  split
  · exact h
  · exact k

/-! ### Small updates -/

theorem setBuffer_kept (s : State) (b : BufferId) (x : Buffer) : MediaKept s (s.setBuffer b x) :=
  (setBuffer_frame s b x).event.kept rfl id

theorem mapBuffer_kept (s : State) (b : BufferId) (g : Buffer → Buffer) : MediaKept s (s.mapBuffer b g) :=
  setBuffer_kept s b _

theorem freeBuffer_kept (s : State) (b : BufferId) : MediaKept s (s.freeBuffer b) := setBuffer_kept s b _

theorem setCache_kept (s : State) (c : Cache)
    (h : c.service.isSome = s.cache.service.isSome := by rfl) :
    MediaKept s (s.setCache c) := (setCache_frame s c).event.kept h id

theorem setPrediction_kept (s : State) (u : DriveId) (p : Option Prediction) : MediaKept s (s.setPrediction u p) :=
  setCache_kept s _

theorem setHeld_kept (s : State) (c : Option Capture) : MediaKept s (s.setHeld c) :=
  (setHeld_frame s c).event.kept rfl id

theorem choices_kept (s : State) (n : Nat) : MediaKept s { s with choices := n } :=
  (choices_frame s n).event.kept rfl id

/-- A request that is not of the panel joins the arbiter's list. -/
theorem post_kept (s : State) (kind : TransKind) (block : Nat) (q : Requester) (cls : Nat)
    (range : Option (Nat × Nat)) (h : q ≠ .panel := by nofun) : MediaKept s (s.post kind block q cls range) := by
  refine (post_frame ..).event.kept rfl ?_
  rintro ⟨r, hr, e⟩
  rcases List.mem_append.mp hr with hr | hr
  · exact ⟨r, hr, e⟩
  · rw [List.mem_singleton.mp hr] at e
    exact absurd e h

theorem withdraw_kept (s : State) (q : Requester) : MediaKept s (s.withdraw q) :=
  (withdraw_frame s q).event.kept rfl fun ⟨r, hr, e⟩ => ⟨r, List.mem_of_mem_filter hr, e⟩

theorem repost_kept (s : State) (q : Requester) (cls : Nat) (h : q ≠ .panel := by nofun) : MediaKept s (s.repost q cls) := by
  unfold State.repost
  split
  · exact .refl s
  · exact (withdraw_kept s q).trans (post_kept _ _ _ q cls _ h)

theorem report_kept (s : State) (r : Report) : MediaKept s (s.report r) :=
  (report_frame s r).event.kept (by simp) (by simp [panelAsks])

theorem oweFillPass_kept (s : State) : MediaKept s s.oweFillPass := setCache_kept s _

theorem swapRecency_kept (s : State) (a b : BufferId) : MediaKept s (s.swapRecency a b) := by
  unfold State.swapRecency
  exact (mapBuffer_kept ..).trans (mapBuffer_kept ..)

theorem orderStamps_kept (old s : State) : MediaKept s (State.orderStamps old s) := by
  unfold State.orderStamps
  split
  · exact ite_kept (swapRecency_kept ..) (.refl s)
  · exact .refl s

theorem stampBuffer_kept (s : State) (b : BufferId) : MediaKept s (s.stampBuffer b) := by
  unfold State.stampBuffer
  exact (setCache_kept ..).trans (mapBuffer_kept ..)

/-! ### Fills -/

theorem postFill_kept (s : State) (b : BufferId) : MediaKept s (s.postFill b) := by
  unfold State.postFill
  split
  · exact .refl s
  · split
    · exact .refl s
    · exact post_kept ..

theorem startFill_kept (s : State) (b : BufferId) : MediaKept s (s.startFill b) := by
  unfold State.startFill
  split
  · exact .refl s
  · split
    · exact .refl s
    · exact (mapBuffer_kept ..).trans (postFill_kept ..)

theorem allocate_kept (s : State) (b : BufferId) (k : Key) (cls : Nat) : MediaKept s (s.allocate b k cls) := by
  unfold State.allocate
  split
  · exact .refl s
  · exact (((choices_kept s _).trans (setBuffer_kept ..)).trans (stampBuffer_kept ..)).trans (startFill_kept ..)

theorem setFillClass_kept (s : State) (b : BufferId) (cls : Nat) : MediaKept s (s.setFillClass b cls) :=
  (mapBuffer_kept ..).trans (repost_kept ..)

theorem takePrefetch_kept (s : State) (b : BufferId) (u : DriveId) (k : Key) :
    MediaKept s (s.takePrefetch b u k) := by
  unfold State.takePrefetch
  split
  · exact mapBuffer_kept ..
  · exact (withdraw_kept ..).trans (allocate_kept ..)

/-! ### Flushes -/

theorem postFlush_kept (s : State) (b : BufferId) (p : Span) (blk : Nat) : MediaKept s (s.postFlush b p blk) := by
  unfold State.postFlush
  split
  · exact (mapBuffer_kept ..).trans (post_kept ..)
  · exact (mapBuffer_kept ..).trans (post_kept ..)

theorem sendFlush_kept (s : State) (b : BufferId) (cls : Nat) : MediaKept s (s.sendFlush b cls) := by
  unfold State.sendFlush
  split
  · exact .refl s
  · exact (mapBuffer_kept ..).trans (postFlush_kept ..)

theorem raiseFlush_kept (s : State) (b : BufferId) : MediaKept s (s.raiseFlush b) := by
  unfold State.raiseFlush
  split
  · exact .refl s
  · exact (mapBuffer_kept ..).trans (repost_kept ..)

theorem reportAttempt_kept (s : State) (x : Buffer) : MediaKept s (s.reportAttempt x) := by
  unfold State.reportAttempt
  split
  · exact .refl s
  · simp only []
    split
    · exact (report_kept ..).trans (report_kept ..)
    · exact report_kept ..

theorem noteAttempt_kept (s : State) (b : BufferId) (e : Option (Nat × Result)) :
    MediaKept s (s.noteAttempt b e) := setCache_kept _ _ Option.isSome_map

theorem endAttempt_kept (s : State) (b : BufferId) : MediaKept s (s.endAttempt b) := by
  unfold State.endAttempt
  simp only []
  split
  · have h := ((setBuffer_kept s b (s.buffer b).attemptOk).trans (noteAttempt_kept _ b none)).trans
      (oweFillPass_kept _)
    exact ite_kept (h.trans (sendFlush_kept ..)) h
  · exact (((reportAttempt_kept ..).trans (setBuffer_kept ..)).trans (noteAttempt_kept ..)).trans
      (oweFillPass_kept _)

theorem beginAttempt_kept (s : State) (b : BufferId) (cls : Nat) : MediaKept s (s.beginAttempt b cls) := by
  unfold State.beginAttempt
  split
  · exact (mapBuffer_kept ..).trans (endAttempt_kept ..)
  · exact sendFlush_kept ..

theorem continueFlush_kept (s : State) (b : BufferId) : MediaKept s (s.continueFlush b) := by
  unfold State.continueFlush
  split
  · exact endAttempt_kept ..
  · exact postFlush_kept ..

theorem failBlock_kept (s : State) (b : BufferId) (r : Result) : MediaKept s (s.failBlock b r) := by
  unfold State.failBlock
  split
  · exact .refl s
  · split
    · exact .refl s
    · exact (setCache_kept ..).trans (mapBuffer_kept ..)

/-! ### Captures -/

theorem writeLost_kept (s : State) (c : Capture) (detail : Nat) : MediaKept s (s.writeLost c detail) :=
  report_kept ..

theorem applyCapture_kept (s : State) (b : BufferId) (c : Capture) : MediaKept s (s.applyCapture b c) :=
  mapBuffer_kept ..

theorem toPending_kept (s : State) (c : Capture) : MediaKept s (s.toPending c) := by
  unfold State.toPending
  split
  · exact setHeld_kept ..
  · exact ((setHeld_kept ..).trans (writeLost_kept ..)).trans (writeLost_kept ..)

theorem handCapture_kept (s : State) (c : Capture) : MediaKept s (s.handCapture c) := by
  unfold State.handCapture
  split
  · exact ite_kept (writeLost_kept ..) (toPending_kept ..)
  · split
    · exact writeLost_kept ..
    · exact ite_kept (writeLost_kept ..) (toPending_kept ..)
    · exact toPending_kept ..
    · exact applyCapture_kept ..
    · exact applyCapture_kept ..
    · exact applyCapture_kept ..
    · exact applyCapture_kept ..

theorem discardPending_kept (s : State) (test : Capture → Bool) (detail : Nat) :
    MediaKept s (s.discardPending test detail) := by
  unfold State.discardPending
  split
  · exact .refl s
  · exact ite_kept ((setHeld_kept ..).trans (writeLost_kept ..)) (.refl s)

/-! ### Predictions -/

theorem predict_kept (s : State) (u : DriveId) : MediaKept s (s.predict u) := by
  unfold State.predict
  split
  · split
    · split
      · exact setPrediction_kept ..
      · exact ite_kept (setPrediction_kept ..) (setPrediction_kept ..)
    · exact .refl s
  · exact .refl s

theorem actOnPrediction_kept (s : State) (u : DriveId) : MediaKept s (s.actOnPrediction u) := by
  unfold State.actOnPrediction
  split
  · exact .refl s
  · split
    · split
      · exact .refl s
      · exact (setPrediction_kept ..).trans (allocate_kept ..)
    · exact .refl s

theorem actOnPredictions_kept (s : State) : MediaKept s s.actOnPredictions := by
  unfold State.actOnPredictions
  split
  · exact ite_kept ((actOnPrediction_kept ..).trans (actOnPrediction_kept ..))
      ((actOnPrediction_kept ..).trans (actOnPrediction_kept ..))
  · exact (actOnPrediction_kept ..).trans (actOnPrediction_kept ..)

/-! ### The ends of fills and flushes -/

theorem completeFill_kept (s : State) (b : BufferId) (k : Key) : MediaKept s (s.completeFill b k) := by
  unfold State.completeFill
  simp only []
  refine MediaKept.trans (t := _) ?_ (ite_kept (predict_kept ..) (.refl _))
  have h := (mapBuffer_kept s b fun x =>
    { x with state := .valid, fillClass := none, entries := x.entries.map fun e => { e with dirty := false } }).trans
    (oweFillPass_kept _)
  split
  · exact h
  · exact ite_kept ((h.trans (setHeld_kept ..)).trans (applyCapture_kept ..)) h

theorem failFill_kept (s : State) (b : BufferId) (k : Key) : MediaKept s (s.failFill b k) :=
  ((mapBuffer_kept ..).trans (report_kept ..)).trans (discardPending_kept ..)

theorem fillResult_kept (s : State) (b : BufferId) (r : Result) (block : List Byte) :
    MediaKept s (s.fillResult b r block) := by
  unfold State.fillResult
  split
  · exact .refl s
  · split
    · exact .refl s
    · exact ite_kept
        (ite_kept ((mapBuffer_kept ..).trans (completeFill_kept ..))
          (((mapBuffer_kept ..).trans (mapBuffer_kept ..)).trans (postFill_kept ..)))
        (failFill_kept ..)

theorem givenUpFill_kept (s : State) (b : BufferId) : MediaKept s (s.givenUpFill b) := by
  unfold State.givenUpFill
  split
  · split
    · exact freeBuffer_kept ..
    · exact allocate_kept ..
  · exact freeBuffer_kept ..

theorem deliverFill_kept (s : State) (b : BufferId) (r : Result) (block : List Byte) :
    MediaKept s (s.deliverFill b r block) :=
  ite_kept (ite_kept (fillResult_kept ..) (givenUpFill_kept ..)) (.refl s)

theorem deliverFlush_kept (s : State) (b : BufferId) (r : Result) : MediaKept s (s.deliverFlush b r) :=
  ite_kept ((ite_kept (.refl s) (failBlock_kept ..)).trans (continueFlush_kept ..)) (.refl s)

/-! ### Demand -/

theorem demandFill_kept (s : State) (u : DriveId) (k : Key) : MediaKept s (s.demandFill u k).1 := by
  unfold State.demandFill
  split
  · exact allocate_kept ..
  · split
    · exact takePrefetch_kept ..
    · split
      · exact beginAttempt_kept ..
      · exact .refl s

theorem resumeFill_kept (s : State) (u : DriveId) : MediaKept s (s.resumeFill u) := by
  unfold State.resumeFill
  simp only []
  split
  · exact setCache_kept ..
  · rename_i k _
    have h := demandFill_kept s u k
    split
    · exact setCache_kept ..
    · split
      · rename_i t e
        rw [e] at h
        exact h.trans (setCache_kept ..)
      · rename_i t e
        rw [e] at h
        exact h

theorem resumeFills_kept (s : State) : MediaKept s s.resumeFills := foldl_kept _ resumeFill_kept _ s

theorem raiseForWaiting_kept (s : State) : MediaKept s s.raiseForWaiting := by
  unfold State.raiseForWaiting
  split
  · exact .refl s
  · exact foldl_kept _ (fun t b => ite_kept (raiseFlush_kept ..) (.refl t)) _ s

theorem lapsePromise_kept (s : State) (u : DriveId) : MediaKept s (s.lapsePromise u) :=
  foldl_kept _ (fun t _ => ite_kept (mapBuffer_kept ..) (.refl t)) _ s

theorem endDemand_kept (old s : State) (u : DriveId) : MediaKept s (State.endDemand old s u) :=
  ite_kept (.refl s)
    ((((setCache_kept ..).trans (setPrediction_kept ..)).trans (lapsePromise_kept ..)).trans
      (discardPending_kept ..))

theorem lowerFill_kept (s : State) (b : BufferId) : MediaKept s (s.lowerFill b) :=
  ite_kept (setFillClass_kept ..) (.refl s)

theorem meetDemand_kept (old s : State) (u : DriveId) : MediaKept s (State.meetDemand old s u) := by
  unfold State.meetDemand
  split
  · exact .refl s
  · split
    · exact .refl s
    · split
      · exact .refl s
      · rename_i b _
        have h : MediaKept s (if old.current b then s else s.stampBuffer b) :=
          ite_kept (.refl s) (stampBuffer_kept ..)
        exact ite_kept (h.trans (setFillClass_kept ..)) (ite_kept (h.trans (predict_kept ..)) h)

theorem wantFill_kept (old s : State) (u : DriveId) : MediaKept s (State.wantFill old s u) := by
  unfold State.wantFill
  split
  · exact .refl s
  · split
    · exact .refl s
    · rename_i k _
      have h := demandFill_kept s u k
      split
      · exact .refl s
      · split
        · rename_i t e
          rw [e] at h
          exact h
        · rename_i t e
          rw [e] at h
          exact h.trans (setCache_kept ..)

theorem followDemand_kept (old s : State) : MediaKept s (State.followDemand old s) := by
  unfold State.followDemand
  simp only []
  refine MediaKept.trans ?_ (setCache_kept ..)
  refine MediaKept.trans ?_ (actOnPredictions_kept _)
  refine MediaKept.trans ?_ (raiseForWaiting_kept _)
  refine MediaKept.trans ?_ (orderStamps_kept old _)
  refine MediaKept.trans ?_ (foldl_kept _ (wantFill_kept old) driveIds _)
  have h : MediaKept s (driveIds.foldl (State.meetDemand old)
      (bufferIds.foldl State.lowerFill (driveIds.foldl (State.endDemand old) s))) :=
    ((foldl_kept _ (endDemand_kept old) driveIds s).trans
      (foldl_kept _ lowerFill_kept bufferIds _)).trans (foldl_kept _ (meetDemand_kept old) driveIds _)
  exact ite_kept (h.trans (resumeFills_kept _)) h

theorem trackMiss_kept (old s : State) (u : DriveId) : MediaKept s (State.trackMiss old s u) := by
  unfold State.trackMiss
  split
  · exact .refl s
  · split
    · exact .refl s
    · exact ite_kept (.refl s) (report_kept ..)

theorem retryFill_kept (s : State) (u : DriveId) : MediaKept s (s.retryFill u) := by
  unfold State.retryFill
  split
  · exact .refl s
  · split
    · exact .refl s
    · exact ite_kept ((mapBuffer_kept ..).trans (startFill_kept ..)) (.refl s)

theorem flushOnStop_kept (old s : State) (u : DriveId) : MediaKept s (State.flushOnStop old s u) :=
  ite_kept (foldl_kept _ (fun t _ => ite_kept (beginAttempt_kept ..) (.refl t)) _ s) (.refl s)

/-! ### Media leaving READY -/

theorem stopFill_kept (u : DriveId) (s : State) (b : BufferId) : MediaKept s (State.stopFill u s b) := by
  unfold State.stopFill
  simp only []
  split
  · split
    · split
      · exact mapBuffer_kept ..
      · exact .refl s
    · exact (withdraw_kept ..).trans (freeBuffer_kept ..)
  · exact .refl s

theorem stopUnit_kept (s : State) (u : DriveId) : MediaKept s (s.stopUnit u) :=
  (foldl_kept _ (stopFill_kept u) _ s).trans (discardPending_kept ..)

theorem releaseBuffer_kept (u : DriveId) (s : State) (b : BufferId) : MediaKept s (State.releaseBuffer u s b) :=
  ite_kept (((withdraw_kept ..).trans (withdraw_kept ..)).trans (freeBuffer_kept ..)) (.refl s)

theorem releaseUnit_kept (s : State) (u : DriveId) : MediaKept s (s.releaseUnit u) :=
  foldl_kept _ (releaseBuffer_kept u) _ s

theorem withdrawUnit_kept (s : State) (u : DriveId) : MediaKept s (s.withdrawUnit u) :=
  foldl_kept _
    (fun t _ => ite_kept ((withdraw_kept ..).trans (withdraw_kept ..)) (.refl t)) _ s

theorem scratch_kept (s : State) (x : Option (List Byte)) :
    MediaKept s { s with card := { s.card with scratch := x } } :=
  mapCard_kept s (fun c => { c with scratch := x }) rfl id

theorem takeBlock_kept (s : State) (b : BufferId) : MediaKept s (s.takeBlock b) := by
  unfold State.takeBlock
  split
  · exact .refl s
  · split
    · exact .refl s
    · exact (scratch_kept s _).trans (mapBuffer_kept ..)

/-! ### Write windows and captures -/

theorem mapWcu_kept (s : State) (g : Wcu → Wcu) : MediaKept s (s.mapWcu g) := (mapWcu_eventFrame s g).kept rfl id

theorem mapFormat_kept (s : State) (g : FormatCapture → FormatCapture) : MediaKept s (s.mapFormat g) := mapWcu_kept s _

theorem reportField_kept (s : State) (w : Window) (k : ReportKind) (detail : Nat) :
    MediaKept s (s.reportField w k detail) := report_kept s _

theorem completeField_kept (s : State) (f : Format) (w : Window) : MediaKept s (s.completeField f w) := by
  unfold State.completeField
  simp only []
  split
  · exact (reportField_kept ..).trans (mapWcu_kept ..)
  · split
    · exact (reportField_kept ..).trans (mapWcu_kept ..)
    · exact ite_kept ((mapWcu_kept ..).trans (handCapture_kept ..)) ((reportField_kept ..).trans (mapWcu_kept ..))

theorem receiveByte_kept (s : State) (f : Format) (w : Window) (b : Byte) : MediaKept s (s.receiveByte f w b) := by
  unfold State.receiveByte
  exact ite_kept ((mapWcu_kept ..).trans (completeField_kept ..)) (mapWcu_kept ..)

theorem enterField_kept (s : State) (f : Format) (w : Window) (mark : Byte) (stamp : Nat) :
    MediaKept s (s.enterField f w mark stamp) := by
  unfold State.enterField
  exact mapWcu_kept ..

theorem enterFormat_kept (s : State) (f : Format) (stamp : Nat) (isId : Bool) :
    MediaKept s (s.enterFormat f stamp isId) := by
  unfold State.enterFormat
  exact mapWcu_kept ..

theorem foundHunting_kept (s : State) (f : Format) (w : Window) (x : Found) : MediaKept s (s.foundHunting f w x) := by
  unfold State.foundHunting
  split
  · exact .refl s
  · exact enterFormat_kept ..
  · exact enterField_kept ..
  · exact enterFormat_kept ..
  · exact report_kept s _

theorem foundSeeking_kept (s : State) (f : Format) (x : Found) : MediaKept s (s.foundSeeking f x) := by
  unfold State.foundSeeking
  split
  · exact mapFormat_kept s _
  · exact mapFormat_kept s _
  · exact .refl s

theorem fieldCell_kept (s : State) (take : State → Byte → State) (h : ∀ t b, MediaKept t (take t b)) :
    MediaKept s (s.fieldCell take) := ite_kept (mapWcu_kept ..) ((mapWcu_kept ..).trans (h _ _))

theorem passCell_kept (s : State) (f : Format) (w : Window) (c : Option Nat) : MediaKept s (s.passCell f w c) := by
  unfold State.passCell
  simp only []
  refine MediaKept.trans (t := s.mapWcu fun x => { x with cells := (c :: x.cells).take 16 }) (mapWcu_kept s _) ?_
  split
  · exact .refl _
  · exact (mapWcu_kept ..).trans (foundHunting_kept ..)
  · exact fieldCell_kept _ _ fun t b => receiveByte_kept t f w b
  · split
    · exact fieldCell_kept _ _ fun t b => mapFormat_kept t _
    · exact fieldCell_kept _ _ fun t b => mapFormat_kept t _
    · exact (mapWcu_kept ..).trans (foundSeeking_kept ..)

theorem passZeros_kept (s : State) (f : Format) (w : Window) (n : Nat) : MediaKept s (s.passZeros f w n) := by
  induction n generalizing s with
  | zero => exact .refl s
  | succ n ih => exact (passCell_kept s f w none).trans (ih _)

theorem loseLock_kept (s : State) (w : Window) : MediaKept s (s.loseLock w) := by
  unfold State.loseLock
  simp only []
  split
  · exact ((mapWcu_kept ..).trans (reportField_kept ..)).trans (mapWcu_kept ..)
  · exact (mapWcu_kept ..).trans (mapFormat_kept ..)
  · exact mapWcu_kept ..

theorem interval_kept (s : State) (f : Format) (w : Window) (t stamp : Nat) : MediaKept s (s.interval f w t stamp) := by
  unfold State.interval
  exact ite_kept
    ((mapWcu_kept s _).trans (ite_kept ((passZeros_kept ..).trans (passCell_kept ..)) (.refl _)))
    (ite_kept (loseLock_kept ..) (mapWcu_kept ..))

theorem transition_kept (s : State) (t : Option Nat) : MediaKept s (s.transition t) := by
  unfold State.transition
  split
  · exact .refl s
  · split
    · exact .refl s
    · split
      · exact .refl s
      · simp only []
        split
        · exact mapWcu_kept ..
        · exact (mapWcu_kept ..).trans (interval_kept ..)

theorem judge_kept (s : State) (f : Format) (w : Window) : MediaKept s (s.judge f w) := by
  unfold State.judge
  simp only []
  split
  · exact report_kept ..
  · exact (report_kept ..).trans (handCapture_kept ..)

theorem closeCapture_kept (s : State) (w : Window) : MediaKept s (s.closeCapture w) := by
  unfold State.closeCapture
  split
  · exact reportField_kept ..
  · split
    · exact .refl s
    · exact judge_kept ..
  · exact .refl s

theorem openWindow_kept (s : State) (u : DriveId) : MediaKept s (s.openWindow u) := by
  unfold State.openWindow
  split
  · exact .refl s
  · exact ite_kept ((mapWcu_kept ..).trans (report_kept ..)) (mapWcu_kept ..)

theorem gateEdge_kept (s : State) : MediaKept s s.gateEdge := by
  unfold State.gateEdge
  split
  · exact .refl s
  · exact ite_kept (openWindow_kept ..) (.refl s)

/-! ### Motors, rotations and read streams -/

theorem StreamFrame.kept {s t : State} (h : StreamFrame s t) : MediaKept s t :=
  h.event.kept (by rw [h.rest]) (by unfold panelAsks; rw [h.rest]; exact id)

theorem MotorFrame.kept {s t : State} (h : MotorFrame s t) : MediaKept s t where
  media u := by rw [h.units u]
  mounted u := by rw [h.units u]
  latch u _ l := by rw [h.units u]; exact l
  slots := by rw [h.rest]
  formats := by rw [h.rest]
  enables := by rw [h.rest]
  eject := by rw [h.rest]
  executing := by rw [h.rest]
  service := by rw [h.rest]
  inFlight := by rw [h.rest]; rfl
  panel := by unfold panelAsks; rw [h.rest]; exact id

/-- A change of a unit that leaves its media, its mounted slot and a latch that must be set keeps the media. -/
theorem setUnit_kept (s : State) (u : DriveId) (x : UnitState) (hm : x.media = (s.unit u).media)
    (hn : x.mounted = (s.unit u).mounted)
    (hl : (s.unit u).media ≠ .ready → (s.unit u).latch = true → x.latch = true) : MediaKept s (s.setUnit u x) := by
  have unit : ∀ v, v = u ∧ (s.setUnit u x).unit v = x ∨ (s.setUnit u x).unit v = s.unit v := fun v => by
    rw [unit_setUnit]
    split
    · exact .inl ⟨‹_›, rfl⟩
    · exact .inr rfl
  refine ⟨fun v => ?_, fun v => ?_, fun v => ?_, rfl, rfl, rfl, rfl, rfl, rfl, rfl, id⟩
  · rcases unit v with ⟨rfl, e⟩ | e <;> rw [e]
    exact hm
  · rcases unit v with ⟨rfl, e⟩ | e <;> rw [e]
    exact hn
  · rcases unit v with ⟨rfl, e⟩ | e <;> rw [e]
    · exact hl
    · exact fun _ h => h

theorem followRotation_kept (old s : State) (u : DriveId) : MediaKept s (State.followRotation old s u) := by
  unfold State.followRotation
  split
  · exact setUnit_kept _ _ _ rfl rfl fun _ h => h
  · exact setUnit_kept _ _ _ rfl rfl fun _ h => h
  · exact .refl s

theorem followConflict_kept (s : State) (closed : Bool) : MediaKept s (s.followConflict closed) := by
  have set : ∀ c, MediaKept s { s with conflict := c } := fun c => (setConflict_frame s c).kept rfl id
  unfold State.followConflict
  split
  · split
    · exact .refl s
    · exact (set _).trans (report_kept ..)
  · exact set _

theorem firstArrival_kept (old s : State) (u : DriveId) : MediaKept s (State.firstArrival old s u) :=
  ite_kept (retryFill_kept ..) (.refl s)

theorem followGate_kept (old s : State) : MediaKept s (State.followGate old s) := ite_kept (gateEdge_kept s) (.refl s)

theorem passBits_kept (s : State) (u : DriveId) (n : Nat) : MediaKept s (s.passBits u n) := by
  unfold State.passBits
  split
  · exact .refl s
  · exact ite_kept (.refl s)
      (ite_kept (setUnit_kept _ _ _ rfl rfl fun _ h => h) (setUnit_kept _ _ _ rfl rfl fun _ h => h))

theorem runToBit_kept (s : State) (u : DriveId) (n : Nat) : MediaKept s (s.runToBit u n) := by
  unfold State.runToBit
  split
  · exact .refl s
  · refine ite_kept ?_ (.refl s)
    refine MediaKept.trans ?_ (emitBit_frame _ u).kept
    have at_n := (passBits_kept s u n).trans
      (setUnit_kept (s.passBits u n) u { (s.passBits u n).unit u with bitCount := n } rfl rfl fun _ h => h)
    exact ite_kept (at_n.trans (retryFill_kept ..)) at_n

theorem turnTo_kept (s : State) (u : DriveId) (t : Nat) : MediaKept s (s.turnTo u t) := by
  unfold State.turnTo
  split
  · split
    · exact .refl s
    · exact runToBit_kept ..
  · exact .refl s

theorem now_kept (s : State) (n : Nat) : MediaKept s { s with now := n } :=
  ⟨fun _ => rfl, fun _ => rfl, fun _ _ h => h, rfl, rfl, rfl, rfl, rfl, rfl, rfl, id⟩

theorem runTo_kept (s : State) (m : Nat) : MediaKept s (s.runTo m) := by
  unfold State.runTo
  simp only []
  exact ite_kept (((now_kept s _).trans (turnTo_kept ..)).trans (turnTo_kept ..))
    (((now_kept s _).trans (turnTo_kept ..)).trans (turnTo_kept ..))

theorem beginBit_kept (s : State) (u : DriveId) (n : Nat) : MediaKept s (s.beginBit u n) := by
  unfold State.beginBit
  split
  · exact .refl s
  · exact ((now_kept s _).trans (turnTo_kept ..)).trans (runToBit_kept ..)

/-- R119: a step clears the latch of a READY unit only. -/
theorem takeStep_kept (s : State) (u : DriveId) (inward : Bool) : MediaKept s (s.takeStep u inward) := by
  refine setUnit_kept s u _ rfl rfl fun m l => ?_
  simp [m, l]

theorem stepEdge_kept (s : State) : MediaKept s s.stepEdge :=
  ite_kept (.refl s) (foldl_kept _ (fun t _ => ite_kept (takeStep_kept ..) (.refl t)) _ s)

/-! ### The link -/

theorem link_kept (s : State) (l : Link) : MediaKept s { s with link := l } :=
  ⟨fun _ => rfl, fun _ => rfl, fun _ _ h => h, rfl, rfl, rfl, rfl, rfl, rfl, rfl, id⟩

theorem mapLink_kept (s : State) (g : Link → Link) : MediaKept s (s.mapLink g) := link_kept s _

theorem shift_kept (s : State) (b : Byte) : MediaKept s (s.shift b) := mapLink_kept s _

theorem setFrame_kept (s : State) (f : Frame) : MediaKept s (s.setFrame f) := mapLink_kept s _

theorem frameFault_kept (s : State) : MediaKept s s.frameFault := mapLink_kept s _

theorem release_kept (s : State) : MediaKept s s.release := by
  unfold State.release
  exact mapLink_kept ..

theorem select_kept (s : State) : MediaKept s s.select := by
  unfold State.select
  split
  · exact .refl s
  · exact mapLink_kept s _

theorem beginFrame_kept (s : State) (g : State → State) (h : ∀ t, MediaKept t (g t)) :
    MediaKept s (s.beginFrame g) := by
  unfold State.beginFrame
  simp only []
  split
  · exact ((select_kept s).trans (mapLink_kept ..)).trans (h _)
  · exact select_kept s

theorem queueCommand_kept (s : State) (inbound : List Byte) : MediaKept s (s.queueCommand inbound) :=
  ite_kept ((setFrame_kept ..).trans (frameFault_kept _)) ((setFrame_kept ..).trans (mapLink_kept ..))

theorem judgeFrame_kept (s : State) (inbound : List Byte) : MediaKept s (s.judgeFrame inbound) :=
  ite_kept (setFrame_kept ..)
    (ite_kept ((setFrame_kept ..).trans (frameFault_kept _)) (ite_kept (setFrame_kept ..) (queueCommand_kept ..)))

theorem commandByte_kept (s : State) (b : Byte) : MediaKept s (s.commandByte b) := by
  unfold State.commandByte
  split
  · exact (shift_kept ..).trans (judgeFrame_kept ..)
  · exact shift_kept ..

theorem startReply_kept (s : State) : MediaKept s s.startReply := by
  unfold State.startReply
  split
  · exact setFrame_kept ..
  · exact setFrame_kept ..

theorem replyByte_kept (s : State) : MediaKept s s.replyByte := by
  unfold State.replyByte
  split
  · exact (shift_kept ..).trans (ite_kept ((setFrame_kept ..).trans (mapLink_kept ..)) (setFrame_kept ..))
  · exact shift_kept ..

theorem reportsDone_kept (s : State) (dropped : Bool) : MediaKept s (s.reportsDone dropped) := mapLink_kept s _

theorem reportsByte_kept (s : State) (b : Byte) : MediaKept s (s.reportsByte b) := by
  unfold State.reportsByte
  split
  · exact (shift_kept ..).trans (setFrame_kept ..)
  · split
    · exact (shift_kept ..).trans (ite_kept (reportsDone_kept ..) (setFrame_kept ..))
    · split
      · exact shift_kept ..
      · refine (shift_kept ..).trans (ite_kept (setFrame_kept ..) ?_)
        exact ite_kept ((mapLink_kept ..).trans (reportsDone_kept ..)) ((mapLink_kept ..).trans (setFrame_kept ..))
  · exact shift_kept ..

theorem exchange_kept (s : State) (b : Byte) : MediaKept s (s.exchange b) := by
  unfold State.exchange
  split
  · exact .refl s
  · exact .refl s
  · exact shift_kept ..
  · exact commandByte_kept ..
  · exact replyByte_kept s
  · exact reportsByte_kept ..

theorem exchanges_kept (s : State) (bytes : List Byte) : MediaKept s (s.exchanges bytes) :=
  foldl_kept _ exchange_kept bytes s

theorem statusFrame_kept (s : State) (n : Nat) : MediaKept s (s.statusFrame n) := by
  unfold State.statusFrame
  split
  · exact exchanges_kept ..
  · split
    · exact select_kept s
    · exact (beginFrame_kept s _ .refl).trans (exchanges_kept ..)

end Sys2Proof.Machine
end

section
/-! PROOFS. O47: the tables and the waiting command, taken apart; the end of an eject and of a flush service. -/

namespace Sys2Proof.Machine

open Sys2Proof.Safety

/-! ### The two halves of the invariant -/

/-- R10, R119, R127: units, slots and formats go together. -/
structure TablesConsistent (s : State) : Prop where
  empty : ∀ u, (s.unit u).media = .empty ↔ (s.unit u).mounted = none
  mounted : ∀ u n, (s.unit u).mounted = some n → ∃ d, s.slot n = .mounted d
  owner : ∀ n d, s.slot n = .mounted d → ∃ u, (s.unit u).mounted = some n
  alone : ∀ n, (s.unit 0).mounted = some n → (s.unit 1).mounted ≠ some n
  format : ∀ n d, (s.slot n).data = some d → (look s.formats d.format).isSome = true
  latch : ∀ u, (s.unit u).media ≠ .ready → (s.unit u).latch = true
  enabled : ∀ u, s.enabled u = false → (s.unit u).media = .empty

/-- The flush service may be under way: an eject saves, or FLUSH is executing (R58). -/
def ServiceAsked (s : State) : Prop :=
  s.eject.map EjectRecord.phase = some .save ∨ (s.eject = none ∧ ∃ tag ps, s.executing = some ⟨0x06, tag, ps⟩)

/-- R58, R127, R148, R165: what the eject record, the flush service and the panel wait for is asked by the executing
command. -/
structure WaitsConsistent (s : State) : Prop where
  ejecting : ∀ u, (s.unit u).media = .ejecting ↔ s.eject.map EjectRecord.unit = some u
  eject : s.eject.isSome = true → ∃ tag ps, s.executing = some ⟨0x05, tag, ps⟩
  service : s.cache.service.isSome = true → ServiceAsked s
  panel : panelWaits s → ∃ code tag ps, (code = 0x02 ∨ code = 0x03) ∧ s.executing = some ⟨code, tag, ps⟩
  once : s.inFlight = some .panel → ¬ panelAsks s

theorem mediaConsistent_iff (s : State) : MediaConsistent s ↔ TablesConsistent s ∧ WaitsConsistent s := by
  constructor
  · rintro ⟨empty, mounted, owner, alone, format, latch, enabled, ejecting, eject, service, panel, once⟩
    exact ⟨⟨empty, mounted, owner, alone, format, latch, enabled⟩,
      ⟨ejecting, eject, service, panel, fun i ⟨r, hr, e⟩ => once i r hr e⟩⟩
  · rintro ⟨⟨empty, mounted, owner, alone, format, latch, enabled⟩, ⟨ejecting, eject, service, panel, once⟩⟩
    exact ⟨empty, mounted, owner, alone, format, latch, enabled, ejecting, eject, service, panel,
      fun i r hr e => once i ⟨r, hr, e⟩⟩

theorem MediaKept.tables {s t : State} (h : MediaKept s t) (m : TablesConsistent s) : TablesConsistent t := by
  have slot : ∀ n, t.slot n = s.slot n := fun n => by rw [State.slot, State.slot, h.slots]
  refine ⟨?_, ?_, ?_, ?_, ?_, ?_, ?_⟩
  · simpa only [h.media, h.mounted] using m.empty
  · simpa only [h.mounted, slot] using m.mounted
  · simpa only [h.mounted, slot] using m.owner
  · simpa only [h.mounted] using m.alone
  · simpa only [slot, h.formats] using m.format
  · exact fun u e => h.latch u (by rwa [h.media] at e) (m.latch u (by rwa [h.media] at e))
  · simpa only [State.enabled, h.enables, h.media] using m.enabled

theorem MediaKept.waits {s t : State} (h : MediaKept s t) (m : WaitsConsistent s) : WaitsConsistent t where
  ejecting := by simpa only [h.media, h.eject] using m.ejecting
  eject := by simpa only [h.eject, h.executing] using m.eject
  service := by simpa only [ServiceAsked, h.eject, h.executing, h.service] using m.service
  panel w := by rw [h.executing]; exact m.panel (h.panelWaits w)
  once i := by rw [h.inFlight] at i; exact m.once i ∘ h.panel

theorem MediaKept.consistent {s t : State} (h : MediaKept s t) (m : MediaConsistent s) : MediaConsistent t :=
  (mediaConsistent_iff t).mpr (((mediaConsistent_iff s).mp m).imp h.tables h.waits)

/-! ### While nothing is waited for -/

/-- No eject is under way, no flush service, and the panel waits for no block. -/
structure Unwaited (s : State) : Prop where
  eject : s.eject = none
  service : s.cache.service = none
  panel : ¬ panelWaits s

theorem MediaKept.unwaited {s t : State} (h : MediaKept s t) (w : Unwaited s) : Unwaited t where
  eject := h.eject.trans w.eject
  service := by have e := h.service; rw [w.service] at e; simpa using e
  panel := fun p => w.panel (h.panelWaits p)

/-- A command that asks the panel's blocks is not one that ejects or flushes. -/
theorem WaitsConsistent.not_panelWaits {s : State} (m : WaitsConsistent s) {x : Executing} (h : s.executing = some x)
    (two : x.code ≠ 0x02) (three : x.code ≠ 0x03) : ¬ panelWaits s := by
  intro w
  obtain ⟨code, tag, ps, c, e⟩ := m.panel w
  rw [h] at e
  obtain rfl := Option.some.inj e
  exact c.elim two three

/-- While nothing is waited for, the eject record names no unit. -/
theorem Unwaited.waits {s : State} (w : Unwaited s) (h : ∀ u, (s.unit u).media ≠ .ejecting) : WaitsConsistent s where
  ejecting u := by simp [w.eject, h u]
  eject := by simp [w.eject]
  service := by simp [w.service]
  panel p := absurd p w.panel
  once i := absurd (.inl i) w.panel

theorem WaitsConsistent.not_ejecting {s : State} (m : WaitsConsistent s) (h : s.eject = none) (u : DriveId) :
    (s.unit u).media ≠ .ejecting := by
  have e := m.ejecting u
  rw [h] at e
  exact fun k => nomatch e.mp k

/-- Only EJECT, FLUSH, CARD_READ and CARD_WRITE wait. -/
theorem unwaited_of_executing {s : State} (m : WaitsConsistent s)
    (h : ∀ x, s.executing = some x → x.code ≠ 0x02 ∧ x.code ≠ 0x03 ∧ x.code ≠ 0x05 ∧ x.code ≠ 0x06) : Unwaited s := by
  have eject : s.eject = none := by
    by_contra e
    obtain ⟨tag, ps, x⟩ := m.eject (Option.isSome_iff_ne_none.mpr e)
    exact (h _ x).2.2.1 rfl
  refine ⟨eject, ?_, fun p => ?_⟩
  · by_contra e
    rcases m.service (Option.isSome_iff_ne_none.mpr e) with k | ⟨-, tag, ps, x⟩
    · simp [eject] at k
    · exact (h _ x).2.2.2 rfl
  · obtain ⟨code, tag, ps, c, x⟩ := m.panel p
    exact c.elim (h _ x).1 (h _ x).2.1

theorem unwaited_of_idle {s : State} (m : MediaConsistent s) (h : s.executing = none) : Unwaited s :=
  unwaited_of_executing ((mediaConsistent_iff s).mp m).2 fun x e => by rw [h] at e; cases e

/-- While nothing is waited for, any command may be the executing one. -/
theorem setExecuting_consistent {s : State} (m : MediaConsistent s) (w : Unwaited s) (x : Option Executing) :
    MediaConsistent { s with executing := x } := by
  obtain ⟨tables, waits⟩ := (mediaConsistent_iff s).mp m
  refine (mediaConsistent_iff _).mpr ⟨⟨?_, ?_, ?_, ?_, ?_, ?_, ?_⟩, Unwaited.waits ⟨w.eject, w.service, w.panel⟩
    (waits.not_ejecting w.eject)⟩
  exacts [tables.empty, tables.mounted, tables.owner, tables.alone, tables.format, tables.latch, tables.enabled]

theorem endCommand_unwaited {s : State} (w : Unwaited s) (r : ResultCode) (p : List Byte) : Unwaited (s.endCommand r p) := by
  refine ⟨by simp [w.eject], by simp [w.service], ?_⟩
  simpa [panelWaits, State.inFlight] using w.panel

theorem ite_consistent {p : Prop} [Decidable p] {a b : State} (h : MediaConsistent a) (k : MediaConsistent b) :
    MediaConsistent (if p then a else b) := by
  split
  · exact h
  · exact k

/-- A command for which nothing is waited ends. -/
theorem endCommand_consistent {s : State} (m : MediaConsistent s) (w : Unwaited s) (r : ResultCode) (p : List Byte) :
    MediaConsistent (s.endCommand r p) := by
  unfold State.endCommand
  split
  · exact m
  · exact (link_kept _ _).consistent (setExecuting_consistent m w none)

/-! ### Changes of media, slots, the eject record and the service -/

theorem setMedia_media (s : State) (u v : DriveId) (m : Media) (n : Option SlotId) :
    ((s.setMedia u m n).unit v).media = if v = u then m else (s.unit v).media := by
  rw [State.setMedia, unit_setUnit]
  split <;> rfl

theorem setMedia_mounted (s : State) (u v : DriveId) (m : Media) (n : Option SlotId) :
    ((s.setMedia u m n).unit v).mounted = if v = u then n else (s.unit v).mounted := by
  rw [State.setMedia, unit_setUnit]
  split <;> rfl

theorem setMedia_latch (s : State) (u v : DriveId) (m : Media) (n : Option SlotId) :
    ((s.setMedia u m n).unit v).latch = (s.unit v).latch := by
  rw [State.setMedia, unit_setUnit]
  split
  · rename_i e; rw [e]
  · rfl

theorem setLatch_media (s : State) (u v : DriveId) : ((s.setLatch u).unit v).media = (s.unit v).media := by
  rw [State.setLatch, unit_setUnit]
  split
  · rename_i e; rw [e]
  · rfl

theorem setLatch_mounted (s : State) (u v : DriveId) : ((s.setLatch u).unit v).mounted = (s.unit v).mounted := by
  rw [State.setLatch, unit_setUnit]
  split
  · rename_i e; rw [e]
  · rfl

theorem setLatch_latch (s : State) (u v : DriveId) :
    ((s.setLatch u).unit v).latch = if v = u then true else (s.unit v).latch := by
  rw [State.setLatch, unit_setUnit]
  split <;> rfl

/-- The service is asked for, or ends. -/
theorem setService_consistent {s : State} (m : MediaConsistent s) (v : Option Service)
    (h : v.isSome = true → ServiceAsked s) : MediaConsistent (s.setCache { s.cache with service := v }) := by
  obtain ⟨⟨empty, mounted, owner, alone, format, latch, enabled⟩, ⟨ejecting, eject, -, panel, once⟩⟩ :=
    (mediaConsistent_iff s).mp m
  exact (mediaConsistent_iff _).mpr
    ⟨⟨empty, mounted, owner, alone, format, latch, enabled⟩, ⟨ejecting, eject, h, panel, once⟩⟩

/-- R58: the service is requested by a command that may. -/
theorem startService_consistent {s : State} (m : MediaConsistent s) (h : ServiceAsked s) (units : List DriveId) :
    MediaConsistent (s.startService units) := by
  refine MediaKept.consistent ?_ (setService_consistent m (some ⟨units, s.serviceBuffers units, false, none⟩) fun _ => h)
  exact foldl_kept _ (fun _ _ => ite_kept (raiseFlush_kept ..) (beginAttempt_kept ..)) _ _

/-- R127: an eject goes on to another phase. -/
theorem setPhase_consistent {s : State} (m : MediaConsistent s) (w : s.cache.service = none) {r : EjectRecord}
    (h : s.eject = some r) (p : EjectPhase) : MediaConsistent (s.setEject (some { r with phase := p })) := by
  obtain ⟨⟨empty, mounted, owner, alone, format, latch, enabled⟩, ⟨ejecting, eject, -, panel, once⟩⟩ :=
    (mediaConsistent_iff s).mp m
  rw [h] at ejecting eject
  exact (mediaConsistent_iff _).mpr
    ⟨⟨empty, mounted, owner, alone, format, latch, enabled⟩, ⟨ejecting, eject, by simp [w], panel, once⟩⟩

/-- An eject's command is executing, and no block of the panel is waited for. -/
theorem not_panelWaits_of_eject {s : State} (m : WaitsConsistent s) {r : EjectRecord} (h : s.eject = some r) :
    ¬ panelWaits s := by
  obtain ⟨tag, ps, x⟩ := m.eject (by rw [h]; rfl)
  exact m.not_panelWaits x (by simp) (by simp)

theorem mounted_of_remount {x : Slot} {b : Bool} {d : SlotData} (h : x.remount b = .mounted d) : b = true := by
  unfold Slot.remount at h
  cases b with
  | true => rfl
  | false => cases e : x.data <;> simp [e] at h

theorem data_remount (x : Slot) (b : Bool) : (x.remount b).data = x.data := by
  cases x <;> cases b <;> rfl

/-! ### Ejects -/

/-- The unit of a slot that becomes EMPTY: the tables once its slot is LOADED again (R10). -/
theorem TablesConsistent.unmount {s t : State} (m : TablesConsistent s) {u : DriveId} {n : SlotId}
    (hn : (s.unit u).mounted = some n) (hl : (s.unit u).media ≠ .ready)
    (media : ∀ v, (t.unit v).media = if v = u then .empty else (s.unit v).media)
    (mounted : ∀ v, (t.unit v).mounted = if v = u then none else (s.unit v).mounted)
    (latch : ∀ v, (t.unit v).latch = (s.unit v).latch)
    (slot : ∀ k, t.slot k = if k = n then (s.slot n).remount false else s.slot k)
    (formats : t.formats = s.formats) (profile : t.profile = s.profile) : TablesConsistent t := by
  have other : ∀ v k, v ≠ u → (s.unit v).mounted = some k → k ≠ n := by
    rintro v k hv hk rfl
    have alone := m.alone k
    match u, v with
    | 0, 0 | 1, 1 => exact hv rfl
    | 0, 1 => exact alone hn hk
    | 1, 0 => exact alone hk hn
  refine ⟨fun v => ?_, fun v k h => ?_, fun k d h => ?_, fun k h => ?_, fun k d h => ?_, fun v h => ?_, fun v h => ?_⟩
  · rw [media, mounted]
    split
    · simp
    · exact m.empty v
  · rw [mounted] at h
    split at h
    · cases h
    · rename_i hv
      rw [slot, if_neg (other v k hv h)]
      exact m.mounted v k h
  · rw [slot] at h
    split at h
    · cases mounted_of_remount h
    · rename_i hk
      obtain ⟨v, hv⟩ := m.owner k d h
      refine ⟨v, ?_⟩
      rw [mounted, if_neg, hv]
      rintro rfl
      exact hk (Option.some.inj (hv.symm.trans hn))
  · rw [mounted] at h ⊢
    split at h
    · cases h
    · split
      · exact nofun
      · exact m.alone k h
  · rw [formats]
    rw [slot] at h
    split at h
    · rw [data_remount] at h
      exact m.format n d h
    · exact m.format k d h
  · rw [latch]
    rw [media] at h
    split at h
    · rename_i e
      rw [e]
      exact m.latch u hl
    · exact m.latch v h
  · rw [media]
    split
    · rfl
    · exact m.enabled v (by rwa [State.enabled, profile] at h)

/-- A unit with media whose media state changes with its slot kept (R131, R134). -/
theorem TablesConsistent.remedia {s t : State} (m : TablesConsistent s) {u : DriveId} (hs : (s.unit u).media ≠ .empty)
    (ht : (t.unit u).media ≠ .empty) (media : ∀ v, v ≠ u → (t.unit v).media = (s.unit v).media)
    (mounted : ∀ v, (t.unit v).mounted = (s.unit v).mounted)
    (latch : ∀ v, (t.unit v).media ≠ .ready → (t.unit v).latch = true)
    (slots : t.slots = s.slots) (formats : t.formats = s.formats) (profile : t.profile = s.profile) :
    TablesConsistent t := by
  have slot : ∀ n, t.slot n = s.slot n := fun n => by rw [State.slot, State.slot, slots]
  refine ⟨fun v => ?_, ?_, ?_, ?_, ?_, latch, fun v h => ?_⟩
  · rw [mounted]
    by_cases e : v = u
    · subst e
      exact iff_of_false ht fun k => hs ((m.empty v).mpr k)
    · rw [media v e]
      exact m.empty v
  · simpa only [mounted, slot] using m.mounted
  · simpa only [mounted, slot] using m.owner
  · simpa only [mounted] using m.alone
  · simpa only [slot, formats] using m.format
  · have empty := m.enabled v (by rwa [State.enabled, profile] at h)
    by_cases e : v = u
    · subst e
      exact absurd empty hs
    · rw [media v e]
      exact empty

/-- The tables do not look at the eject record. -/
theorem TablesConsistent.setEject {s : State} (m : TablesConsistent s) (r : Option EjectRecord) :
    TablesConsistent (s.setEject r) :=
  ⟨m.empty, m.mounted, m.owner, m.alone, m.format, m.latch, m.enabled⟩

/-- The unit of an eject record is EJECTING, with its latch set and a slot mounted; no other unit is (R127). -/
theorem ejecting_of_eject {s : State} (m : WaitsConsistent s) {r : EjectRecord} (h : s.eject = some r) (u : DriveId) :
    (s.unit u).media = .ejecting ↔ u = r.unit := by
  rw [m.ejecting, h]
  exact ⟨fun e => (Option.some.inj e).symm, fun e => e ▸ rfl⟩

/-- A unit without media and its slot LOADED again (R133). -/
def State.unmounted (s : State) (u : DriveId) (n : SlotId) : State :=
  (s.setMedia u .empty none).setSlot n ((s.slot n).remount false)

theorem unmounted_tables {s : State} (m : TablesConsistent s) {u : DriveId} {n : SlotId}
    (hn : (s.unit u).mounted = some n) (hl : (s.unit u).media ≠ .ready) : TablesConsistent (s.unmounted u n) :=
  m.unmount hn hl (fun v => setMedia_media s u v _ _) (fun v => setMedia_mounted s u v _ _)
    (fun v => setMedia_latch s u v _ _) (fun k => slot_setSlot _ n k _) rfl rfl

/-- What the completion of an eject comes to: the unit's buffers and its slot are given up, with reports, and the command
ends. -/
theorem completeEject_eq {s : State} {r : EjectRecord} {n : SlotId} (h : (s.unit r.unit).mounted = some n) :
    ∃ t, MediaKept ((s.releaseUnit r.unit).unmounted r.unit n) t ∧
      s.completeEject r = (t.setEject none).endCommand .ok [] := by
  unfold State.completeEject
  simp only [h]
  refine ⟨_, ?_, rfl⟩
  refine MediaKept.trans ?_ (report_kept ..)
  exact ite_kept (report_kept ..) (.refl _)

/-- Once an eject's unit is EMPTY and its slot LOADED, the record can go: nothing is waited for any more. -/
theorem unmounted_consistent {s t : State} (m : MediaConsistent s) (w : s.cache.service = none) {r : EjectRecord}
    (h : s.eject = some r) {n : SlotId} (hn : (s.unit r.unit).mounted = some n)
    (kept : MediaKept (s.unmounted r.unit n) t) :
    MediaConsistent (t.setEject none) ∧ Unwaited (t.setEject none) := by
  obtain ⟨tables, waits⟩ := (mediaConsistent_iff s).mp m
  have ejecting := ejecting_of_eject waits h
  have free : Unwaited (t.setEject none) := by
    refine ⟨rfl, ?_, fun p => not_panelWaits_of_eject waits h (kept.panelWaits p)⟩
    have service : t.cache.service.isSome = s.cache.service.isSome := kept.service
    simpa [w] using service
  have media : ∀ u, (t.unit u).media ≠ .ejecting := by
    intro u
    rw [kept.media, State.unmounted, setSlot_unit, setMedia_media]
    split
    · exact nofun
    · rename_i hu
      exact fun k => hu ((ejecting u).mp k)
  have emptied := unmounted_tables tables hn (by rw [(ejecting r.unit).mpr rfl]; exact nofun)
  exact ⟨(mediaConsistent_iff _).mpr ⟨(kept.tables emptied).setEject none, free.waits media⟩, free⟩

/-- R133, R135: an eject completes. -/
theorem completeEject_consistent {s : State} (m : MediaConsistent s) (w : s.cache.service = none) {r : EjectRecord}
    (h : s.eject = some r) : MediaConsistent (s.completeEject r) := by
  obtain ⟨tables, waits⟩ := (mediaConsistent_iff s).mp m
  have release := releaseUnit_kept s r.unit
  obtain ⟨n, hn⟩ : ∃ n, (s.unit r.unit).mounted = some n := by
    rw [← Option.isSome_iff_exists, Option.isSome_iff_ne_none]
    intro e
    have ejecting := (ejecting_of_eject waits h r.unit).mpr rfl
    rw [(tables.empty _).mpr e] at ejecting
    cases ejecting
  obtain ⟨t, kept, e⟩ := completeEject_eq hn
  have service := release.service
  rw [w] at service
  obtain ⟨done, free⟩ := unmounted_consistent (release.consistent m) (by simpa using service)
    (release.eject.trans h) ((release.mounted r.unit).trans hn) kept
  rw [e]
  exact endCommand_consistent done free _ _

/-- R62: a release, at once or after a transaction. -/
theorem tryRelease_consistent {s : State} (m : MediaConsistent s) (w : s.cache.service = none) {r : EjectRecord}
    (h : s.eject = some r) : MediaConsistent (s.tryRelease r) := by
  unfold State.tryRelease
  split
  · have kept := withdrawUnit_kept s r.unit
    refine setPhase_consistent (kept.consistent m) ?_ (kept.eject.trans h) .release
    have service := kept.service
    rw [w] at service
    simpa using service
  · exact completeEject_consistent m w h

/-- R134: a NORMAL eject is refused. -/
theorem refuseEject_consistent {s : State} (m : MediaConsistent s) (w : s.cache.service = none) {r : EjectRecord}
    (h : s.eject = some r) : MediaConsistent (s.refuseEject r) := by
  obtain ⟨tables, waits⟩ := (mediaConsistent_iff s).mp m
  have ejecting := ejecting_of_eject waits h
  have media := fun v => setMedia_media s r.unit v .ready (s.unit r.unit).mounted
  have free : Unwaited ((s.setMedia r.unit .ready (s.unit r.unit).mounted).setEject none) :=
    ⟨rfl, w, fun p => not_panelWaits_of_eject waits h p⟩
  have ready : TablesConsistent (s.setMedia r.unit .ready (s.unit r.unit).mounted) := by
    refine tables.remedia (u := r.unit) ?_ ?_ (fun v hv => ?_) (fun v => ?_) (fun v hv => ?_) rfl rfl rfl
    · rw [(ejecting _).mpr rfl]; exact nofun
    · rw [media, if_pos rfl]; exact nofun
    · rw [media, if_neg hv]
    · rw [setMedia_mounted]
      split
      · rename_i e; rw [e]
      · rfl
    · rw [media] at hv
      rw [setMedia_latch]
      split at hv
      · exact absurd rfl hv
      · exact tables.latch v hv
  have none_ : ∀ u, (((s.setMedia r.unit .ready (s.unit r.unit).mounted).setEject none).unit u).media ≠ .ejecting := by
    intro u
    rw [setEject_unit, media]
    split
    · exact nofun
    · rename_i hu
      exact fun k => hu ((ejecting u).mp k)
  have kept := report_kept ((s.setMedia r.unit .ready (s.unit r.unit).mounted).setEject none)
  exact endCommand_consistent
    ((kept _).consistent ((mediaConsistent_iff _).mpr ⟨ready.setEject none, free.waits none_⟩)) ((kept _).unwaited free) _ _

/-- R62: the eject that waited completes. -/
theorem releaseNow_consistent {s : State} (m : MediaConsistent s) : MediaConsistent s.releaseNow := by
  unfold State.releaseNow
  split
  · exact m
  · rename_i r h
    split
    · rename_i due
      refine completeEject_consistent m ?_ h
      have phase : r.phase = .release := by
        rw [State.releaseDue, h] at due
        exact of_decide_eq_true (Bool.and_eq_true_iff.mp due).1
      by_contra service
      rcases ((mediaConsistent_iff s).mp m).2.service (Option.isSome_iff_ne_none.mpr service) with k | ⟨k, -⟩
      · rw [h] at k
        have save : r.phase = .save := Option.some.inj k
        rw [phase] at save
        cases save
      · rw [h] at k; cases k
    · exact m

/-! ### The flush service -/

/-- R58, R133, R134, R173: a service whose attempts have ended ends, and its requester decides. -/
theorem settleService_consistent (fuel : Nat) {s : State} (m : MediaConsistent s) :
    MediaConsistent (State.settleService fuel s) := by
  induction fuel generalizing s with
  | zero => exact m
  | succ fuel ih =>
    unfold State.settleService
    split
    · exact m
    · rename_i v hv
      have asked : ServiceAsked s := ((mediaConsistent_iff s).mp m).2.service (by rw [hv]; rfl)
      have ended := setService_consistent m none nofun
      split
      · exact m
      · split
        · rename_i r hr
          refine ite_consistent (refuseEject_consistent ended rfl hr) ?_
          exact ite_consistent (ih (startService_consistent ended asked _)) (tryRelease_consistent ended rfl hr)
        · rename_i hr
          have free : Unwaited (s.setCache { s.cache with service := none }) := by
            refine ⟨hr, rfl, ?_⟩
            rcases asked with k | ⟨-, tag, ps, x⟩
            · rw [hr] at k; cases k
            · exact ((mediaConsistent_iff s).mp m).2.not_panelWaits x (by simp) (by simp)
          refine ite_consistent (endCommand_consistent ended free _ _) ?_
          exact ite_consistent (ih (startService_consistent ended asked _)) (endCommand_consistent ended free _ _)

theorem requestService_consistent {s : State} (m : MediaConsistent s) (h : ServiceAsked s) (units : List DriveId) :
    MediaConsistent (s.requestService units) :=
  settleService_consistent 2 (startService_consistent m h units)

/-- R132: an eject leaves the phase HOLD. -/
theorem leaveHold_consistent {s : State} (m : MediaConsistent s) : MediaConsistent s.leaveHold := by
  unfold State.leaveHold
  split
  · exact m
  · rename_i r h
    split
    · rename_i phase
      have service : s.cache.service = none := by
        by_contra service
        rcases ((mediaConsistent_iff s).mp m).2.service (Option.isSome_iff_ne_none.mpr service) with k | ⟨k, -⟩
        · rw [h] at k
          have save : r.phase = .save := Option.some.inj k
          rw [phase] at save
          cases save
        · rw [h] at k; cases k
      split
      · exact requestService_consistent (setPhase_consistent m service h .save) (.inl rfl) _
      · exact tryRelease_consistent m service h
    · exact m

end Sys2Proof.Machine
end

section
/-! PROOFS. O47: mounts, reactions, resets and the removal of the card. -/

namespace Sys2Proof.Machine

open Sys2Proof.Safety

/-- R131: an accepted EJECT has its unit EJECTING with its latch set. -/
theorem ejectStarted_consistent {s : State} (m : MediaConsistent s) (w : Unwaited s) {u : DriveId}
    (h : (s.unit u).media ≠ .empty) {tag : Byte} {ps : List Byte} (x : s.executing = some ⟨0x05, tag, ps⟩)
    (mode : EjectMode) :
    MediaConsistent
      (((s.setMedia u .ejecting (s.unit u).mounted).setLatch u).setEject (some ⟨u, mode, .hold⟩)) := by
  obtain ⟨tables, waits⟩ := (mediaConsistent_iff s).mp m
  let t := (s.setMedia u .ejecting (s.unit u).mounted).setLatch u
  have media : ∀ v, (t.unit v).media = if v = u then .ejecting else (s.unit v).media :=
    fun v => (setLatch_media ..).trans (setMedia_media ..)
  have latch : ∀ v, (t.unit v).latch = if v = u then true else (s.unit v).latch :=
    fun v => (setLatch_latch ..).trans (by rw [setMedia_latch])
  have mounted : ∀ v, (t.unit v).mounted = (s.unit v).mounted := fun v => by
    refine (setLatch_mounted ..).trans ((setMedia_mounted ..).trans ?_)
    split
    · rename_i e; rw [e]
    · rfl
  have out : TablesConsistent t := by
    refine tables.remedia h ?_ (fun v hv => ?_) mounted (fun v hv => ?_) rfl rfl rfl
    · rw [media, if_pos rfl]; exact nofun
    · rw [media, if_neg hv]
    · rw [latch]
      split
      · rfl
      · rename_i e
        rw [media, if_neg e] at hv
        exact tables.latch v hv
  refine (mediaConsistent_iff _).mpr ⟨out.setEject _, ⟨fun v => ?_, fun _ => ⟨tag, ps, x⟩, ?_, ?_, ?_⟩⟩
  · rw [setEject_unit, media]
    by_cases e : v = u
    · simp [e, State.setEject]
    · rw [if_neg e]
      exact iff_of_false (waits.not_ejecting w.eject v) fun k => e (Option.some.inj k).symm
  · intro k
    have service : s.cache.service.isSome = true := k
    rw [w.service] at service
    cases service
  · exact fun p => absurd p w.panel
  · exact fun i => absurd (.inl i) w.panel

/-- R131, R132: an accepted EJECT. -/
theorem beginEject_consistent {s : State} (m : MediaConsistent s) (w : Unwaited s) {u : DriveId}
    (h : (s.unit u).media ≠ .empty) {tag : Byte} {ps : List Byte} (x : s.executing = some ⟨0x05, tag, ps⟩)
    (mode : EjectMode) : MediaConsistent (s.beginEject u mode) := by
  unfold State.beginEject
  have started := (stopUnit_kept _ u).consistent (ejectStarted_consistent m w h x mode)
  refine ite_consistent ?_ (leaveHold_consistent started)
  exact (mapWcu_kept _ fun w => { w with ejectHoldDue := some _ }).consistent started

/-- The tables once a LOADED slot is mounted on an EMPTY unit that is enabled (R129, R130). -/
theorem TablesConsistent.mount {s : State} (m : TablesConsistent s) {u : DriveId} {n : SlotId} {d : SlotData}
    (enabled : s.enabled u = true) (empty : (s.unit u).media = .empty) (loaded : s.slot n = .loaded d) :
    TablesConsistent ((s.setMedia u .ready (some n)).setSlot n (.mounted d)) := by
  let t := (s.setMedia u .ready (some n)).setSlot n (.mounted d)
  have media : ∀ v, (t.unit v).media = if v = u then .ready else (s.unit v).media := fun v => setMedia_media ..
  have mounted : ∀ v, (t.unit v).mounted = if v = u then some n else (s.unit v).mounted := fun v => setMedia_mounted ..
  have slot : ∀ k, t.slot k = if k = n then .mounted d else s.slot k := fun k => slot_setSlot ..
  have free : ∀ v, (s.unit v).mounted ≠ some n := fun v e => by
    obtain ⟨d', e'⟩ := m.mounted v n e
    rw [loaded] at e'
    cases e'
  refine ⟨fun v => ?_, fun v k h => ?_, fun k e h => ?_, fun k h => ?_, fun k e h => ?_, fun v h => ?_, fun v h => ?_⟩
  · rw [media, mounted]
    split
    · simp
    · exact m.empty v
  · rw [slot]
    rw [mounted] at h
    split at h
    · rw [if_pos (Option.some.inj h).symm]
      exact ⟨d, rfl⟩
    · rw [if_neg]
      · exact m.mounted v k h
      · rintro rfl
        exact free v h
  · rw [slot] at h
    split at h
    · rename_i e
      exact ⟨u, by rw [mounted, if_pos rfl, e]⟩
    · obtain ⟨v, hv⟩ := m.owner k e h
      refine ⟨v, ?_⟩
      rw [mounted, if_neg, hv]
      rintro rfl
      rw [(m.empty v).mp empty] at hv
      cases hv
  · rw [mounted] at h ⊢
    split at h
    · rename_i e
      rw [if_neg (by rw [← e]; decide)]
      exact fun k' => free 1 (k'.trans h.symm)
    · split
      · exact fun k' => free 0 (h.trans k'.symm)
      · exact m.alone k h
  · rw [slot] at h
    show (look s.formats e.format).isSome = true
    split at h
    · exact m.format n e (by rw [loaded]; exact h)
    · exact m.format k e h
  · rw [setSlot_unit, setMedia_latch]
    rw [media] at h
    split at h
    · exact absurd rfl h
    · exact m.latch v h
  · rw [media]
    have off : s.enabled v = false := h
    split
    · rename_i e
      rw [e, enabled] at off
      cases off
    · exact m.enabled v off

/-- R130: an accepted MOUNT. -/
theorem insertMedia_consistent {s : State} (m : MediaConsistent s) (w : Unwaited s) {u : DriveId} {n : SlotId}
    {d : SlotData} (enabled : s.enabled u = true) (empty : (s.unit u).media = .empty) (loaded : s.slot n = .loaded d) :
    MediaConsistent (s.insertMedia u n) ∧ Unwaited (s.insertMedia u n) := by
  obtain ⟨tables, waits⟩ := (mediaConsistent_iff s).mp m
  let t := (s.setMedia u .ready (some n)).setSlot n (.mounted d)
  have free : Unwaited t := ⟨w.eject, w.service, w.panel⟩
  have media : ∀ v, (t.unit v).media ≠ .ejecting := by
    intro v
    rw [setSlot_unit, setMedia_media]
    split
    · exact nofun
    · exact waits.not_ejecting w.eject v
  have inserted : MediaConsistent t := (mediaConsistent_iff t).mpr ⟨tables.mount enabled empty loaded, free.waits media⟩
  have e : (s.slot n).remount true = .mounted d := by rw [loaded]; rfl
  unfold State.insertMedia
  rw [e]
  exact ⟨(report_kept t _).consistent inserted, (report_kept t _).unwaited free⟩

/-! ### Reactions -/

theorem closeWindow_consistent {s : State} (m : MediaConsistent s) : MediaConsistent s.closeWindow := by
  unfold State.closeWindow
  split
  · exact m
  · rename_i w _
    have closed := ((closeCapture_kept s w).trans (mapWcu_kept _ Wcu.closed)).consistent m
    exact ite_consistent (leaveHold_consistent closed) closed

theorem followWindow_consistent (old : State) {s : State} (m : MediaConsistent s) :
    MediaConsistent (State.followWindow old s) := ite_consistent (closeWindow_consistent m) m

/-- Once a reaction has looked at the open window, it keeps the media (log entry 17). -/
theorem react_kept (old s : State) : MediaKept (State.followWindow old (motorsFollowed old s)) (react old s) := by
  unfold react
  simp only []
  refine MediaKept.trans ?_ (takeModes_frame old _).kept
  refine MediaKept.trans ?_ (followGate_kept old _)
  refine MediaKept.trans ?_ (foldl_kept _ (trackMiss_kept old) driveIds _)
  refine MediaKept.trans ?_ (foldl_kept _ (firstArrival_kept old) driveIds _)
  refine MediaKept.trans ?_ (followDemand_kept old _)
  refine MediaKept.trans ?_ (foldl_kept _ (flushOnStop_kept old) driveIds _)
  refine MediaKept.trans ?_ (foldl_kept _ (followRotation_kept old) driveIds _)
  exact followConflict_kept ..

theorem react_consistent (old : State) {s : State} (m : MediaConsistent s) : MediaConsistent (react old s) :=
  (react_kept old s).consistent (followWindow_consistent old ((motorsFollowed_frame old s).kept.consistent m))

/-- With no eject in the phase HOLD, the close of a window keeps the media too. -/
theorem closeWindow_kept {s : State} (h : NoHold s) : MediaKept s s.closeWindow := by
  unfold State.closeWindow
  split
  · exact .refl s
  · rename_i w _
    have closed := (closeCapture_kept s w).trans (mapWcu_kept _ Wcu.closed)
    simp only []
    rw [leaveHold_noHold _ (noHold_congr h closed.eject)]
    exact ite_kept closed closed

theorem react_unwaited (old : State) {s : State} (w : Unwaited s) : Unwaited (react old s) := by
  have motors := (motorsFollowed_frame old s).kept
  have hold : NoHold (motorsFollowed old s) := fun r e => by rw [motors.eject, w.eject] at e; cases e
  exact ((motors.trans (ite_kept (closeWindow_kept hold) (.refl _))).trans (react_kept old s)).unwaited w

theorem event_consistent {s : State} {g : State → State} (m : MediaConsistent (g s)) : MediaConsistent (s.event g) :=
  react_consistent s m

theorem event_unwaited {s : State} {g : State → State} (w : Unwaited (g s)) : Unwaited (s.event g) := react_unwaited s w

/-! ### Resets and the removal of the card -/

/-- Units that are EMPTY with their latches set and slots that are VACANT go together. -/
theorem TablesConsistent.of_vacant {s : State} (media : ∀ u, (s.unit u).media = .empty)
    (mounted : ∀ u, (s.unit u).mounted = none) (latch : ∀ u, (s.unit u).latch = true) (slot : ∀ n, s.slot n = .vacant) :
    TablesConsistent s := by
  refine ⟨fun u => by simp [media, mounted], fun u n h => ?_, fun n d h => ?_, fun n h => ?_, fun n d h => ?_,
    fun u _ => latch u, fun u _ => media u⟩
  · rw [mounted] at h; cases h
  · rw [slot] at h; cases h
  · rw [mounted] at h; cases h
  · rw [slot] at h; cases h

/-- With every unit EMPTY, every slot VACANT and nothing asked, no eject record can be left. -/
theorem vacant_consistent {s : State}
    (unit : ∀ u, (s.unit u).media = .empty ∧ (s.unit u).mounted = none ∧ (s.unit u).latch = true)
    (slot : ∀ n, s.slot n = .vacant) (service : s.cache.service = none) (panel : ¬ panelWaits s) :
    MediaConsistent (s.setEject none) ∧ Unwaited (s.setEject none) := by
  have tables : TablesConsistent s :=
    .of_vacant (fun u => (unit u).1) (fun u => (unit u).2.1) (fun u => (unit u).2.2) slot
  have free : Unwaited (s.setEject none) := ⟨rfl, service, panel⟩
  refine ⟨(mediaConsistent_iff _).mpr ⟨tables.setEject none, free.waits fun u => ?_⟩, free⟩
  rw [setEject_unit, (unit u).1]
  exact nofun

theorem cleared_consistent (s : State) (cdet clsw : Bool) (replies : List Reply) :
    MediaConsistent (s.cleared cdet clsw replies) := by
  have unit : ∀ u, (s.cleared cdet clsw replies).unit u = UnitState.reset := reset_unit
  refine (vacant_consistent (s := s.cleared cdet clsw replies) (fun u => ?_) reset_slot rfl ?_).1
  · rw [unit]
    exact ⟨rfl, rfl, rfl⟩
  · rintro (h | ⟨r, hr, -⟩)
    · cases h
    · cases hr

theorem pins_kept (s : State) (pins : BitVec 9) : MediaKept s { s with pins := pins } :=
  ⟨fun _ => rfl, fun _ => rfl, fun _ _ h => h, rfl, rfl, rfl, rfl, rfl, rfl, rfl, id⟩

theorem resetPin_kept (s : State) (b : Bool) : MediaKept s { s with resetPin := b } :=
  ⟨fun _ => rfl, fun _ => rfl, fun _ _ h => h, rfl, rfl, rfl, rfl, rfl, rfl, rfl, id⟩

theorem restart_consistent (s : State) (pins : BitVec 9) (cdet clsw : Bool) (replies : List Reply) :
    MediaConsistent (s.restart pins cdet clsw replies) :=
  react_consistent _ ((pins_kept _ pins).consistent (cleared_consistent s cdet clsw replies))

theorem resetNow_consistent {s : State} (m : MediaConsistent s) : MediaConsistent s.resetNow := by
  unfold State.resetNow
  split
  · exact m
  · exact restart_consistent ..

theorem pullMedia_other (s : State) {u v : DriveId} (h : v ≠ u) : (s.pullMedia u).unit v = s.unit v := by
  unfold State.pullMedia
  split
  · rfl
  · rw [State.setLatch, unit_setUnit_ne _ _ h, State.setMedia, unit_setUnit_ne _ _ h]

/-- R139: a unit that is pulled is EMPTY, with its latch set. -/
theorem pullMedia_self (s : State) (u : DriveId) (mounted : (s.unit u).media = .empty → (s.unit u).mounted = none)
    (latch : (s.unit u).media = .empty → (s.unit u).latch = true) :
    ((s.pullMedia u).unit u).media = .empty ∧ ((s.pullMedia u).unit u).mounted = none ∧
      ((s.pullMedia u).unit u).latch = true := by
  unfold State.pullMedia
  split
  · rename_i h
    exact ⟨h, mounted h, latch h⟩
  · simp [setLatch_media, setLatch_mounted, setLatch_latch, setMedia_media, setMedia_mounted]

theorem pullMedia_rest (s : State) (u : DriveId) : s.pullMedia u = { s with units := (s.pullMedia u).units } := by
  unfold State.pullMedia
  split <;> rfl

/-- R63, R84, R139: after a card removal every unit is EMPTY and every slot VACANT. -/
theorem pullAll_consistent {s : State} (m : TablesConsistent s) (w : ¬ panelWaits s) :
    MediaConsistent s.pullAll ∧ Unwaited s.pullAll := by
  obtain ⟨a, kept, e⟩ : ∃ a, MediaKept s a ∧
      s.pullAll = (({ ({ a with wcu := Wcu.reset } : State).dropCache with
        slots := Vector.replicate 8 .vacant }.pullMedia 0).pullMedia 1).setEject none := by
    have reported : ∀ (x : State) (u : DriveId) (n : Nat), MediaKept x (x.reportDiscarded u n) := fun x u n =>
      ite_kept (report_kept ..) (.refl x)
    exact ⟨_, ((discardPending_kept ..).trans (reported ..)).trans (reported ..), rfl⟩
  have tables := kept.tables m
  let b : State := { ({ a with wcu := Wcu.reset } : State).dropCache with slots := Vector.replicate 8 .vacant }
  have mounted : ∀ u, (b.unit u).media = .empty → (b.unit u).mounted = none := fun u => (tables.empty u).mp
  have latch : ∀ u, (b.unit u).media = .empty → (b.unit u).latch = true := fun u h =>
    tables.latch u (by rw [show (a.unit u).media = _ from h]; exact nofun)
  have first := pullMedia_self b 0 (mounted 0) (latch 0)
  have one : (b.pullMedia 0).unit 1 = b.unit 1 := pullMedia_other b (by decide)
  have second := pullMedia_self (b.pullMedia 0) 1 (by rw [one]; exact mounted 1) (by rw [one]; exact latch 1)
  have zero : ((b.pullMedia 0).pullMedia 1).unit 0 = (b.pullMedia 0).unit 0 := pullMedia_other _ (by decide)
  have pulled : ∀ u, (((b.pullMedia 0).pullMedia 1).unit u).media = .empty ∧
      (((b.pullMedia 0).pullMedia 1).unit u).mounted = none ∧ (((b.pullMedia 0).pullMedia 1).unit u).latch = true := by
    intro u
    match u with
    | 0 => rw [zero]; exact first
    | 1 => exact second
  have rest : ((b.pullMedia 0).pullMedia 1) = { b with units := ((b.pullMedia 0).pullMedia 1).units } := by
    rw [pullMedia_rest (b.pullMedia 0), pullMedia_rest b]
  rw [e]
  refine vacant_consistent pulled (fun n => ?_) ?_ ?_
  · rw [State.slot, rest]
    exact look_replicate _ n
  · rw [rest]
    rfl
  · rw [rest]
    exact fun p => w (kept.panelWaits p)

theorem dropCard_consistent {s : State} (m : MediaConsistent s) : MediaConsistent s.dropCard := by
  obtain ⟨⟨empty, mounted, owner, alone, format, latch, enabled⟩, -⟩ := (mediaConsistent_iff s).mp m
  obtain ⟨pulled, free⟩ := pullAll_consistent
    (s := s.mapCard fun c => { CardPort.reset with clsw := c.clsw, power := c.power })
    ⟨empty, mounted, owner, alone, format, latch, enabled⟩ fun w => w.elim nofun fun ⟨_, hr, _⟩ => nomatch hr
  exact (report_kept _ _).consistent (endCommand_consistent pulled free _ _)

end Sys2Proof.Machine
end

section
/-! PROOFS. O47: the rows of the Card Port and of the drive port. -/

namespace Sys2Proof.Machine

open Sys2Proof.Safety

/-! ### The Card Port -/

theorem cardReady_kept (s : State) (blocks : Nat) : MediaKept s (s.cardReady blocks) :=
  (mapCard_kept s _ rfl id).trans (report_kept ..)

theorem cardFailed_kept (s : State) (detail : Nat) : MediaKept s (s.cardFailed detail) :=
  (mapCard_kept s _ rfl id).trans (report_kept ..)

theorem sendExchange_kept (s : State) (e : StartupExchange) : MediaKept s (s.sendExchange e) := mapCard_kept s _ rfl id

theorem startCard_kept (s : State) : MediaKept s s.startCard := (mapCard_kept s _ rfl id).trans (sendExchange_kept ..)

theorem detected_kept (s : State) : MediaKept s s.detected := by
  unfold State.detected
  split
  · exact .refl s
  · exact ite_kept ((runTo_kept ..).trans (startCard_kept _)) (.refl s)

theorem startupAnswer_kept (s : State) (good error ready blocks512 : Bool) (blocks : Nat) :
    MediaKept s (s.startupAnswer good error ready blocks512 blocks) := by
  unfold State.startupAnswer
  split
  · exact .refl s
  · refine ite_kept (sendExchange_kept ..) (ite_kept (cardFailed_kept ..) ?_)
    split
    · exact sendExchange_kept ..
    · exact ite_kept (sendExchange_kept ..) (sendExchange_kept ..)
    · exact ite_kept (sendExchange_kept ..) (cardFailed_kept ..)
    · exact ite_kept (cardFailed_kept ..) (cardReady_kept ..)

theorem exchangeLate_kept (s : State) : MediaKept s s.exchangeLate := by
  unfold State.exchangeLate
  split
  · exact .refl s
  · exact (runTo_kept ..).trans (sendExchange_kept ..)

theorem startupLate_kept (s : State) : MediaKept s s.startupLate := by
  unfold State.startupLate
  split
  · exact .refl s
  · exact (runTo_kept ..).trans (cardFailed_kept ..)

/-- R149: the arbiter grants a request of its list. -/
theorem mem_requests_of_granted {s : State} {r : Request} (h : s.granted = some r) : r ∈ s.card.requests := by
  have mem_oldest : ∀ rs : List Request, r ∈ oldest rs → r ∈ rs := by
    intro rs hr
    unfold oldest at hr
    split at hr
    · cases hr
    · exact List.mem_of_mem_filter hr
  have mem_firstClass : ∀ rs : List Request, r ∈ firstClass rs → r ∈ rs := by
    intro rs hr
    unfold firstClass at hr
    split at hr
    · cases hr
    · exact List.mem_of_mem_filter hr
  exact mem_firstClass _ (mem_oldest _ (List.mem_of_getElem? h))

/-- The waits of a state whose arbiter has a request's transaction in flight in place of the request. -/
theorem granted_consistent {s : State} (m : MediaConsistent s) {r : Request} (hr : r ∈ s.card.requests)
    (g : CardPort → CardPort) (requests : ∀ c, (g c).requests = c.requests)
    (transaction : ∀ c, (g c).transaction.map Transaction.requester = some r.requester) :
    MediaConsistent ((s.withdraw r.requester).mapCard g) := by
  obtain ⟨⟨empty, mounted, owner, alone, format, latch, enabled⟩, waits⟩ := (mediaConsistent_iff s).mp m
  have inFlight : ((s.withdraw r.requester).mapCard g).inFlight = some r.requester := transaction _
  have asks : panelAsks ((s.withdraw r.requester).mapCard g) → panelAsks s ∧ r.requester ≠ .panel := by
    rintro ⟨q, hq, e⟩
    rw [State.mapCard, requests] at hq
    obtain ⟨hq, ne⟩ := List.mem_filter.mp hq
    rw [e] at ne
    exact ⟨⟨q, hq, e⟩, fun k => by simp [k] at ne⟩
  refine (mediaConsistent_iff _).mpr ⟨⟨empty, mounted, owner, alone, format, latch, enabled⟩,
    ⟨waits.ejecting, waits.eject, waits.service, fun w => waits.panel ?_, fun i k => (asks k).2 ?_⟩⟩
  · rcases w with i | k
    · rw [inFlight] at i
      exact .inr ⟨r, hr, Option.some.inj i⟩
    · exact .inr (asks k).1
  · rw [inFlight] at i
    exact Option.some.inj i

theorem loadScratch_kept (s : State) (r : Request) : MediaKept s (s.loadScratch r) := by
  unfold State.loadScratch
  split
  · exact takeBlock_kept ..
  · exact scratch_kept s _
  · exact .refl s

theorem arbitrate_consistent {s : State} (m : MediaConsistent s) : MediaConsistent s.arbitrate := by
  unfold State.arbitrate
  split
  · split
    · exact m
    · rename_i r h
      unfold State.grant
      exact ((choices_kept _ _).trans (loadScratch_kept _ r)).consistent
        (granted_consistent m (mem_requests_of_granted h) _ (fun _ => rfl) fun _ => rfl)
  · exact m

/-- The transaction in flight ends: its requester waits for it no more (R150). -/
theorem transactionEnded_consistent {s : State} (m : MediaConsistent s) :
    MediaConsistent (s.mapCard fun c => { c with transaction := none, scratch := none }) := by
  obtain ⟨⟨empty, mounted, owner, alone, format, latch, enabled⟩, waits⟩ := (mediaConsistent_iff s).mp m
  refine (mediaConsistent_iff _).mpr ⟨⟨empty, mounted, owner, alone, format, latch, enabled⟩,
    ⟨waits.ejecting, waits.eject, waits.service, fun w => waits.panel (.inr ?_), nofun⟩⟩
  exact w.resolve_left nofun

/-- Once the panel's transaction has ended, nothing is waited for (R151, R152). -/
theorem transactionEnded_unwaited {s : State} (m : WaitsConsistent s) (h : s.inFlight = some .panel) :
    Unwaited (s.mapCard fun c => { c with transaction := none, scratch := none }) := by
  obtain ⟨code, tag, ps, hc, x⟩ := m.panel (.inl h)
  have eject : s.eject = none := by
    by_contra e
    obtain ⟨tag', ps', y⟩ := m.eject (Option.isSome_iff_ne_none.mpr e)
    rw [x] at y
    cases y
    revert hc
    decide
  refine ⟨eject, ?_, fun w => m.once h (w.resolve_left nofun)⟩
  by_contra service
  rcases m.service (Option.isSome_iff_ne_none.mpr service) with k | ⟨-, tag', ps', y⟩
  · rw [eject] at k; cases k
  · rw [x] at y
    cases y
    revert hc
    decide

theorem deliverPanel_consistent {s : State} (m : MediaConsistent s) (w : Unwaited s) (t : Transaction) (r : Result)
    (block : List Byte) : MediaConsistent (s.deliverPanel t r block) := by
  unfold State.deliverPanel
  refine ite_consistent ?_ (endCommand_consistent m w _ _)
  split
  · exact endCommand_consistent m w _ _
  · exact endCommand_consistent m w _ _

/-- R144, R150: the transaction in flight ends with its final result. -/
theorem finish_consistent {s : State} (m : MediaConsistent s) {t : Transaction} (h : s.card.transaction = some t)
    (r : Result) : MediaConsistent (s.finish t r) := by
  have ended := transactionEnded_consistent m
  refine event_consistent ?_
  unfold State.deliver
  refine ite_consistent ended ?_
  split
  · rename_i e
    refine deliverPanel_consistent ended (transactionEnded_unwaited ((mediaConsistent_iff s).mp m).2 ?_) ..
    rw [State.inFlight, h]
    exact congrArg some e
  · exact (deliverFill_kept ..).consistent ended
  · refine ite_consistent (ite_consistent ended ((failBlock_kept ..).consistent ended)) ?_
    exact settleService_consistent 2 ((deliverFlush_kept ..).consistent ended)

/-- The transaction in flight goes on for the same requester. -/
theorem transaction_kept {s : State} {t t' : Transaction} (h : s.card.transaction = some t)
    (e : t'.requester = t.requester) : MediaKept s (s.mapCard fun c => { c with transaction := some t' }) :=
  mapCard_kept s _ (by simp [State.inFlight, h, e]) id

theorem attemptFails_consistent {s : State} (m : MediaConsistent s) {t : Transaction} (h : s.card.transaction = some t)
    (r : Result) : MediaConsistent (s.attemptFails t r) :=
  ite_consistent ((transaction_kept h (by rfl)).consistent m) (finish_consistent m h r)

/-- The transaction in flight comes to another stage. -/
theorem toStage_kept {s : State} {t t' : Transaction} (h : s.card.transaction = some t)
    (e : t'.requester = t.requester) (g : Stage) : MediaKept s (s.toStage t' g) := transaction_kept h e

theorem atStage_consistent {s : State} (m : MediaConsistent s) (stages : List Stage) (g : State → Transaction → State)
    (hg : ∀ t, s.card.transaction = some t → MediaConsistent (g s t)) : MediaConsistent (s.atStage stages g) := by
  unfold State.atStage
  split
  · exact m
  · exact ite_consistent (hg _ ‹_›) m

/-- A take leaves the transaction in flight as it is (R54). -/
theorem takeBlock_transaction (s : State) (b : BufferId) : (s.takeBlock b).card.transaction = s.card.transaction := by
  unfold State.takeBlock
  split
  · rfl
  · split <;> rfl

theorem mergeTake_kept {s : State} {t : Transaction} (h : s.card.transaction = some t) :
    MediaKept s (s.mergeTake t) := by
  unfold State.mergeTake
  simp only []
  split
  · exact (takeBlock_kept ..).trans (toStage_kept ((takeBlock_transaction ..).trans h) (by rfl) _)
  · exact toStage_kept h (by rfl) _

theorem readEnd_consistent {s : State} (m : MediaConsistent s) (data : List Byte) (check : Word16) {t : Transaction}
    (h : s.card.transaction = some t) : MediaConsistent (State.readEnd data check s t) := by
  have held := (scratch_kept s (some data)).consistent m
  refine ite_consistent ?_ (attemptFails_consistent held h _)
  split
  · exact MediaKept.consistent (mergeTake_kept (by exact h)) held
  · exact finish_consistent held h _

/-- The clock leaves the transaction in flight as it is. -/
theorem runTo_transaction (s : State) (n : Nat) : (s.runTo n).card.transaction = s.card.transaction := by
  rw [(runTo_frame s n).card]

theorem removeCard_consistent {s : State} (m : MediaConsistent s) : MediaConsistent s.removeCard := by
  unfold State.removeCard
  refine ite_consistent m ?_
  split
  · unfold State.resetNow
    split
    · obtain ⟨⟨empty, mounted, owner, alone, format, latch, enabled⟩, waits⟩ := (mediaConsistent_iff s).mp m
      refine (mediaConsistent_iff _).mpr ⟨⟨empty, mounted, owner, alone, format, latch, enabled⟩,
        ⟨waits.ejecting, waits.eject, waits.service, fun w => waits.panel (.inr ?_), nofun⟩⟩
      exact w.resolve_left nofun
    · exact restart_consistent ..
  · exact event_consistent (dropCard_consistent m)

/-! ### Drive rows -/

theorem setPins_consistent {s : State} (m : MediaConsistent s) (pins : BitVec 9) (t : Option Nat) :
    MediaConsistent (s.setPins pins t) := by
  have sampled : MediaConsistent (s.event fun x => { x with pins := pins }) :=
    event_consistent ((pins_kept s pins).consistent m)
  have stepped := ite_consistent (p := s.level .step = false ∧ (s.event fun x => { x with pins := pins }).level .step = true)
    (event_consistent ((stepEdge_kept _).consistent sampled)) sampled
  exact ite_consistent (event_consistent ((transition_kept _ t).consistent stepped)) stepped

theorem setInput_consistent {s : State} (m : MediaConsistent s) (i : Input) (level : Bool) :
    MediaConsistent (s.setInput i level) := by
  unfold State.setInput
  split
  · exact m
  · exact setPins_consistent m ..

theorem released_consistent {s : State} (m : MediaConsistent s) (i : Input) : MediaConsistent (s.released i) :=
  ite_consistent (setInput_consistent m ..) m

theorem stepPulse_consistent {s : State} (m : MediaConsistent s) (inward : Bool) :
    MediaConsistent (s.stepPulse inward) := by
  have free := released_consistent m .step
  unfold State.stepPulse
  simp only []
  split
  · exact setPins_consistent free ..
  · exact setInput_consistent (setPins_consistent free ..) ..

theorem writePulse_consistent {s : State} (m : MediaConsistent s) (t : Nat) : MediaConsistent (s.writePulse t) := by
  have free := released_consistent m .wdata
  unfold State.writePulse
  simp only []
  split
  · exact free
  · exact setInput_consistent (setPins_consistent ((runTo_kept ..).consistent free) ..) ..

theorem spinUp_consistent {s : State} (m : MediaConsistent s) (u : DriveId) : MediaConsistent (s.spinUp u) := by
  unfold State.spinUp
  split
  · exact m
  · exact event_consistent
      (((runTo_kept s _).trans (setUnit_kept _ u _ (by rfl) (by rfl) (by exact fun _ h => h))).consistent m)

theorem settled_consistent {s : State} (m : MediaConsistent s) (u : DriveId) : MediaConsistent (s.settled u) := by
  unfold State.settled
  split
  · exact m
  · exact event_consistent
      (((runTo_kept s _).trans (setUnit_kept _ u _ (by rfl) (by rfl) (by exact fun _ h => h))).consistent m)

theorem closeRevolution_kept (s : State) (u : DriveId) : MediaKept s (s.closeRevolution u) := by
  unfold State.closeRevolution
  split
  · exact .refl s
  · exact beginBit_kept ..

theorem leaveIndex_kept (s : State) (u : DriveId) : MediaKept s (s.leaveIndex u) := by
  unfold State.leaveIndex
  split
  · exact .refl s
  · exact beginBit_kept ..

theorem resume_kept (s : State) (u : DriveId) : MediaKept s (s.resume u) := by
  unfold State.resume
  split
  · exact .refl s
  · exact beginBit_kept ..

theorem holdOver_consistent {s : State} (m : MediaConsistent s) : MediaConsistent s.holdOver := by
  unfold State.holdOver
  split
  · exact m
  · exact event_consistent (closeWindow_consistent ((runTo_kept ..).consistent m))

theorem delayOver_consistent {s : State} (m : MediaConsistent s) (b : BufferId) : MediaConsistent (s.delayOver b) := by
  unfold State.delayOver
  split
  · exact m
  · exact ite_consistent
      (event_consistent (((runTo_kept s _).trans (beginAttempt_kept _ b 4)).consistent m)) m

end Sys2Proof.Machine
end

section
/-! PROOFS. O47: the commands, the rows and the step. -/

namespace Sys2Proof.Machine

open Sys2Proof.Safety

/-! ### Formats, slots and profiles -/

/-- R5: an entry of the format table becomes DEFINED. -/
theorem defineEntry_consistent {s : State} (m : MediaConsistent s) (i : FormatId) (f : Format) :
    MediaConsistent { s with formats := put s.formats i (some f) } := by
  obtain ⟨⟨empty, mounted, owner, alone, format, latch, enabled⟩, ⟨ejecting, eject, service, panel, once⟩⟩ :=
    (mediaConsistent_iff s).mp m
  refine (mediaConsistent_iff _).mpr
    ⟨⟨empty, mounted, owner, alone, fun n d h => ?_, latch, enabled⟩, ⟨ejecting, eject, service, panel, once⟩⟩
  by_cases e : d.format = i
  · simp [e]
  · rw [look_put_ne _ _ _ _ (fun k => e k.symm)]
    exact format n d h

/-- R14, R15, R137: a slot changes, MOUNTED as it was, to one whose format is DEFINED. -/
theorem setSlot_consistent {s : State} (m : MediaConsistent s) {n : SlotId} {x : Slot}
    (mount : (∃ d, x = .mounted d) ↔ ∃ d, s.slot n = .mounted d)
    (defined : ∀ d, x.data = some d → (look s.formats d.format).isSome = true) : MediaConsistent (s.setSlot n x) := by
  obtain ⟨⟨empty, mounted, owner, alone, format, latch, enabled⟩, ⟨ejecting, eject, service, panel, once⟩⟩ :=
    (mediaConsistent_iff s).mp m
  have same : ∀ k, (∃ d, (s.setSlot n x).slot k = .mounted d) ↔ ∃ d, s.slot k = .mounted d := fun k => by
    rw [slot_setSlot]
    split
    · rename_i e; rw [e]; exact mount
    · exact Iff.rfl
  refine (mediaConsistent_iff _).mpr
    ⟨⟨empty, fun u k h => (same k).mpr (mounted u k h), fun k d h => ?_, alone, fun k d h => ?_, latch, enabled⟩,
      ⟨ejecting, eject, service, panel, once⟩⟩
  · obtain ⟨d', h'⟩ := (same k).mp ⟨d, h⟩
    exact owner k d' h'
  · rw [slot_setSlot] at h
    split at h
    · exact defined d h
    · exact format k d h

/-- While every unit is EMPTY any profile can come into force (R124). -/
theorem setProfile_consistent {s : State} (m : MediaConsistent s) (h : ∀ u, (s.unit u).media = .empty) (p : Profile) :
    MediaConsistent { s with profile := p } := by
  obtain ⟨⟨empty, mounted, owner, alone, format, latch, -⟩, ⟨ejecting, eject, service, panel, once⟩⟩ :=
    (mediaConsistent_iff s).mp m
  exact (mediaConsistent_iff _).mpr
    ⟨⟨empty, mounted, owner, alone, format, latch, fun u _ => h u⟩, ⟨ejecting, eject, service, panel, once⟩⟩

theorem clampCylinder_kept (s : State) (u : DriveId) : MediaKept s (s.clampCylinder u) :=
  setUnit_kept _ _ _ rfl rfl fun _ h => h

/-- R124: with no unit busy, every unit is EMPTY. -/
theorem empty_of_busyUnit {s : State} (h : s.busyUnit = none) (u : DriveId) : (s.unit u).media = .empty := by
  have all := List.find?_eq_none.mp h u (by match u with | 0 | 1 => simp [driveIds])
  simpa using all

/-! ### The commands -/

section Commands

variable {s : State} (m : MediaConsistent s) (w : Unwaited s) (ps : List Byte)
include m w

theorem ofLength_consistent {n : Nat} {g : State → State} (h : MediaConsistent (g s)) :
    MediaConsistent (s.ofLength ps n g) := ite_consistent h (endCommand_consistent m w _ _)

theorem queryUnit_consistent : MediaConsistent (s.queryUnit ps) := by
  unfold State.queryUnit
  split
  · exact endCommand_consistent m w _ _
  · exact endCommand_consistent m w _ _

theorem defineFormat_consistent : MediaConsistent (s.defineFormat ps) := by
  unfold State.defineFormat
  split
  · exact endCommand_consistent m w _ _
  · split
    · exact endCommand_consistent m w _ _
    · split
      · exact endCommand_consistent m w _ _
      · exact endCommand_consistent (defineEntry_consistent m _ _) ⟨w.eject, w.service, w.panel⟩ _ _

theorem loadSlot_consistent : MediaConsistent (s.loadSlot ps) := by
  unfold State.loadSlot
  split
  · exact endCommand_consistent m w _ _
  · rename_i n _
    refine ite_consistent (endCommand_consistent m w _ _) ?_
    split
    · exact endCommand_consistent m w _ _
    · rename_i free
      unfold State.describeSlot
      split
      · exact endCommand_consistent m w _ _
      · rename_i i f hf
        split
        · exact endCommand_consistent m w _ _
        · split
          · exact endCommand_consistent m w _ _
          · refine endCommand_consistent (setSlot_consistent m (iff_of_false (by simp) ?_) fun d hd => ?_)
              ⟨w.eject, w.service, w.panel⟩ _ _
            · rintro ⟨d, e⟩
              exact free (by rw [e]; rfl)
            · obtain ⟨j, -, hj⟩ := Option.bind_eq_some_iff.mp hf
              obtain ⟨g, hg, e⟩ := Option.map_eq_some_iff.mp hj
              cases e
              cases hd
              rw [hg]
              rfl

theorem unloadSlot_consistent : MediaConsistent (s.unloadSlot ps) := by
  unfold State.unloadSlot
  split
  · exact endCommand_consistent m w _ _
  · split
    · exact endCommand_consistent m w _ _
    · rename_i free
      refine endCommand_consistent (setSlot_consistent m (iff_of_false (by simp) ?_) (by simp [Slot.data]))
        ⟨w.eject, w.service, w.panel⟩ _ _
      rintro ⟨d, e⟩
      exact free (by rw [e]; rfl)

theorem setProtect_consistent : MediaConsistent (s.setProtect ps) := by
  unfold State.setProtect
  split
  · exact endCommand_consistent m w _ _
  · rename_i n _
    split
    · exact endCommand_consistent m w _ _
    · rename_i prot _
      refine ite_consistent (endCommand_consistent m w _ _) ?_
      have format := ((mediaConsistent_iff s).mp m).1.format n
      refine endCommand_consistent (setSlot_consistent m ?_ fun d hd => ?_) ⟨w.eject, w.service, w.panel⟩ _ _
      · cases s.slot n <;> simp [Slot.withProtect]
      · cases e : s.slot n with
        | vacant => rw [e] at hd; cases hd
        | loaded d' => rw [e] at hd; cases hd; exact format d' (by rw [e]; rfl)
        | mounted d' => rw [e] at hd; cases hd; exact format d' (by rw [e]; rfl)

theorem mount_consistent : MediaConsistent (s.mount ps) := by
  unfold State.mount
  split
  · exact endCommand_consistent m w _ _
  · split
    · exact endCommand_consistent m w _ _
    · rename_i u _ n _
      split
      · exact endCommand_consistent m w _ _
      · rename_i may
        obtain ⟨enabled, empty⟩ := not_or.mp may
        refine ite_consistent (endCommand_consistent m w _ _) ?_
        split
        · rename_i d hd
          unfold State.present
          split
          · exact endCommand_consistent m w _ _
          · refine ite_consistent (endCommand_consistent m w _ _) ?_
            obtain ⟨inserted, free⟩ := insertMedia_consistent m w (by simpa using enabled) (not_not.mp empty) hd
            exact endCommand_consistent (event_consistent (by exact inserted)) (event_unwaited (by exact free)) _ _
        · exact endCommand_consistent m w _ _

theorem ejectCommand_consistent {tag : Byte} {ps' : List Byte} (x : s.executing = some ⟨0x05, tag, ps'⟩) :
    MediaConsistent (s.ejectCommand ps) := by
  unfold State.ejectCommand
  split
  · exact endCommand_consistent m w _ _
  · split
    · exact endCommand_consistent m w _ _
    · split
      · exact endCommand_consistent m w _ _
      · rename_i u _ mode _ media
        exact event_consistent (beginEject_consistent m w media x mode)

theorem flushCommand_consistent {tag : Byte} {ps' : List Byte} (x : s.executing = some ⟨0x06, tag, ps'⟩) :
    MediaConsistent (s.flushCommand ps) := by
  unfold State.flushCommand
  split
  · exact endCommand_consistent m w _ _
  · exact event_consistent (requestService_consistent m (.inr ⟨w.eject, tag, ps', x⟩) _)

/-- R151, R152: a command of the panel posts its one request. -/
theorem postPanel_consistent {code tag : Byte} {ps' : List Byte} (x : s.executing = some ⟨code, tag, ps'⟩)
    (c : code = 0x02 ∨ code = 0x03) (kind : TransKind) (block : Nat) :
    MediaConsistent (s.post kind block .panel 3 none) := by
  obtain ⟨⟨empty, mounted, owner, alone, format, latch, enabled⟩, waits⟩ := (mediaConsistent_iff s).mp m
  exact (mediaConsistent_iff _).mpr ⟨⟨empty, mounted, owner, alone, format, latch, enabled⟩,
    ⟨waits.ejecting, waits.eject, waits.service, fun _ => ⟨code, tag, ps', c, x⟩, fun i => absurd (.inl i) w.panel⟩⟩

theorem cardRead_consistent {tag : Byte} {ps' : List Byte} (x : s.executing = some ⟨0x02, tag, ps'⟩) :
    MediaConsistent (s.cardRead ps) :=
  ite_consistent (endCommand_consistent m w _ _)
    (ite_consistent (endCommand_consistent m w _ _) (postPanel_consistent m w x (.inl rfl) _ _))

theorem cardWrite_consistent {tag : Byte} {ps' : List Byte} (x : s.executing = some ⟨0x03, tag, ps'⟩) :
    MediaConsistent (s.cardWrite ps) := by
  refine ite_consistent (endCommand_consistent m w _ _) (ite_consistent (endCommand_consistent m w _ _) ?_)
  split
  · exact endCommand_consistent m w _ _
  · exact ite_consistent (endCommand_consistent m w _ _) (postPanel_consistent m w x (.inr rfl) _ _)

theorem profileCommand_consistent : MediaConsistent (s.profileCommand ps) := by
  unfold State.profileCommand
  split
  · exact endCommand_consistent m w _ _
  · rename_i idle
    split
    · exact endCommand_consistent m w _ _
    · have clamped := foldl_kept _ clampCylinder_kept driveIds ({ s with profile := profileOf ps } : State)
      have applied := clamped.consistent (setProfile_consistent m (empty_of_busyUnit idle) (profileOf ps))
      have free := clamped.unwaited (s := { s with profile := profileOf ps }) ⟨w.eject, w.service, w.panel⟩
      exact endCommand_consistent (event_consistent (by exact applied)) (event_unwaited (by exact free)) _ _

end Commands

/-- R165, R166: a command starts and is carried out. -/
theorem carryOut_consistent {s : State} (m : MediaConsistent s) (idle : s.executing = none) (q : QueuedCommand) :
    MediaConsistent (s.carryOut q) := by
  have free := unwaited_of_idle m idle
  have started : MediaConsistent (s.start q) := setExecuting_consistent m free _
  have w : Unwaited (s.start q) := ⟨free.eject, free.service, free.panel⟩
  have executing : ∀ {n : Nat}, q.code.toNat = n → (s.start q).executing = some ⟨BitVec.ofNat 8 n, q.tag, q.params⟩ := by
    rintro _ rfl
    simp [State.start]
  unfold State.carryOut
  simp only []
  split
  · exact ofLength_consistent started w _ (endCommand_consistent started w _ _)
  · exact ofLength_consistent started w _ (cardRead_consistent started w _ (executing ‹_›))
  · exact ofLength_consistent started w _ (cardWrite_consistent started w _ (executing ‹_›))
  · exact ofLength_consistent started w _ (defineFormat_consistent started w _)
  · exact ofLength_consistent started w _ (ejectCommand_consistent started w _ (executing ‹_›))
  · exact ofLength_consistent started w _ (flushCommand_consistent started w _ (executing ‹_›))
  · exact ofLength_consistent started w _ (endCommand_consistent started w _ _)
  · exact ofLength_consistent started w _ (loadSlot_consistent started w _)
  · exact ofLength_consistent started w _ (mount_consistent started w _)
  · exact ofLength_consistent started w _ (endCommand_consistent started w _ _)
  · exact ofLength_consistent started w _ (queryUnit_consistent started w _)
  · exact ofLength_consistent started w _ (ite_consistent (resetNow_consistent started) started)
  · exact ofLength_consistent started w _ (profileCommand_consistent started w _)
  · exact ofLength_consistent started w _ (setProtect_consistent started w _)
  · exact ofLength_consistent started w _ (unloadSlot_consistent started w _)
  · exact endCommand_consistent started w _ _

/-! ### The command queue and the rows -/

theorem executing_of_startDue {s : State} (h : s.startDue = true) : s.executing = none := by
  unfold State.startDue at h
  simp only [Bool.and_eq_true, Option.isNone_iff_eq_none] at h
  exact h.1.1

theorem runQueue_consistent (fuel : Nat) {s : State} (m : MediaConsistent s) :
    MediaConsistent (State.runQueue fuel s) := by
  induction fuel generalizing s with
  | zero => exact m
  | succ fuel ih =>
    unfold State.runQueue
    split
    · exact m
    · split
      · rename_i due
        have idle := executing_of_startDue due
        exact ih (carryOut_consistent ((link_kept s _).consistent m) (by exact idle) _)
      · exact m

theorem takeCommands_consistent {s : State} (m : MediaConsistent s) : MediaConsistent s.takeCommands :=
  runQueue_consistent _ m

theorem taken_kept (s : State) : MediaKept s s.taken :=
  ⟨fun _ => rfl, fun _ => rfl, fun _ _ h => h, rfl, rfl, rfl, rfl, rfl, rfl, rfl, id⟩

/-- A row answers a state that meets the invariant. -/
def AnswersConsistent (o : Host.Outcome State Fault Refusal) : Prop := ∀ t, o = .next t → MediaConsistent t

theorem answers_next {t : State} (m : MediaConsistent t) : AnswersConsistent (.next t) :=
  fun _ h => Host.Outcome.next.inj h ▸ m

/-- A row after which the command queue is looked at (R159). -/
theorem answers_row {old t : State} (m : MediaConsistent t) : AnswersConsistent (.next (State.followQueue old t)) :=
  answers_next (ite_consistent (takeCommands_consistent m) m)

/-- A command's own row, which does what the command does from the queue. -/
theorem answers_direct {s : State} (m : MediaConsistent s) (q : QueuedCommand) :
    AnswersConsistent (.next (if s.taken.unoccupied then s.taken.carryOut q else s.taken)) := by
  have taken := (taken_kept s).consistent m
  refine answers_next ?_
  split
  · rename_i h
    exact carryOut_consistent taken ((unoccupied_iff _).mp h).1 q
  · exact taken

/-- Every row keeps the media together. -/
theorem exec_consistent {s : State} (m : MediaConsistent s) (i : Instr) : AnswersConsistent (exec i s) := by
  have taken := (taken_kept s).consistent m
  have kept : ∀ {t : State}, MediaKept s.taken t → AnswersConsistent (.next t) :=
    fun k => answers_next (k.consistent taken)
  have row : ∀ {t : State}, MediaKept s.taken t → AnswersConsistent (.next (State.followQueue s t)) :=
    fun k => answers_row (k.consistent taken)
  cases i with
  | cardInfo tag ps => exact answers_direct m ⟨0x01, tag, ps⟩
  | cardRead tag ps => exact answers_direct m ⟨0x02, tag, ps⟩
  | cardWrite tag ps => exact answers_direct m ⟨0x03, tag, ps⟩
  | defineFormat tag ps => exact answers_direct m ⟨0x04, tag, ps⟩
  | eject tag ps => exact answers_direct m ⟨0x05, tag, ps⟩
  | flush tag ps => exact answers_direct m ⟨0x06, tag, ps⟩
  | identify tag ps => exact answers_direct m ⟨0x07, tag, ps⟩
  | loadSlot tag ps => exact answers_direct m ⟨0x08, tag, ps⟩
  | mount tag ps => exact answers_direct m ⟨0x09, tag, ps⟩
  | queryCache tag ps => exact answers_direct m ⟨0x0A, tag, ps⟩
  | queryUnit tag ps => exact answers_direct m ⟨0x0B, tag, ps⟩
  | reset tag ps => exact answers_direct m ⟨0x0C, tag, ps⟩
  | setProfile tag ps => exact answers_direct m ⟨0x0D, tag, ps⟩
  | setProtect tag ps => exact answers_direct m ⟨0x0E, tag, ps⟩
  | unloadSlot tag ps => exact answers_direct m ⟨0x0F, tag, ps⟩
  | badCommand code tag ps =>
    refine answers_next (ite_consistent taken ?_)
    unfold State.direct
    split
    · rename_i h
      have idle := ((unoccupied_iff _).mp h).1
      have free := unwaited_of_idle taken idle
      exact endCommand_consistent (setExecuting_consistent taken free (some ⟨code, tag, ps⟩))
        ⟨free.eject, free.service, free.panel⟩ _ _
    · exact taken
  | status n => exact row (statusFrame_kept ..)
  | command bytes => exact row ((beginFrame_kept _ _ fun t => setFrame_kept t _).trans (exchanges_kept ..))
  | fetchReply n => exact row ((beginFrame_kept _ _ startReply_kept).trans (exchanges_kept ..))
  | fetchReports bytes => exact row ((beginFrame_kept _ _ fun t => setFrame_kept t _).trans (exchanges_kept ..))
  | unknownFrameKind kind n =>
    exact kept (ite_kept (.refl _) ((beginFrame_kept _ _ frameFault_kept).trans (exchanges_kept ..)))
  | mselNegated => exact kept (release_kept _)
  | commandStart => exact answers_next (takeCommands_consistent taken)
  | resetTakesEffect => exact answers_next (ite_consistent (resetNow_consistent taken) taken)
  | hardwareReset pins cdet clsw =>
    refine answers_next ?_
    split
    · exact (resetPin_kept _ true).consistent (cleared_consistent ..)
    · exact restart_consistent ..
  | selectChange u level => exact answers_row (setInput_consistent taken ..)
  | motorAssert u => exact answers_row (setInput_consistent taken ..)
  | motorNegate u => exact answers_row (setInput_consistent taken ..)
  | spinUpExpiry u => exact answers_row (spinUp_consistent taken u)
  | step inward => exact answers_row (stepPulse_consistent taken inward)
  | sideChange level => exact answers_row (setInput_consistent taken ..)
  | wgateAssert => exact answers_row (setInput_consistent taken ..)
  | wgateNegate => exact answers_row (setInput_consistent taken ..)
  | writeTransition ticks => exact answers_row (writePulse_consistent taken ticks)
  | indexArrival u => exact kept (ite_kept (closeRevolution_kept ..) (.refl _))
  | indexRegionEnd u => exact kept (ite_kept (leaveIndex_kept ..) (.refl _))
  | settleExpiry u => exact answers_row (settled_consistent taken u)
  | resumeHoldEnd u => exact kept (ite_kept (resume_kept ..) (.refl _))
  | ejectHoldExpiry => exact answers_row (holdOver_consistent taken)
  | writeBackDelayExpiry b => exact answers_row (delayOver_consistent taken b)
  | demandFillResumed => exact answers_row (event_consistent ((resumeFills_kept _).consistent taken))
  | prefetchActedOn => exact answers_row (event_consistent ((actOnPredictions_kept _).consistent taken))
  | cardDetect => exact kept (detected_kept _)
  | cardRemoval => exact answers_row (removeCard_consistent taken)
  | lockSwitchChange level => exact kept (by exact mapCard_kept _ _ rfl id)
  | startupExchangeAnswer good error ready blocks512 blocks => exact kept (startupAnswer_kept ..)
  | exchangeTimeout => exact kept (exchangeLate_kept _)
  | startupTimeout => exact kept (startupLate_kept _)
  | arbiterGrant => exact answers_next (arbitrate_consistent taken)
  | readPhaseEnd data check =>
    exact answers_row (ite_consistent (atStage_consistent taken _ _ fun _ h => readEnd_consistent taken data check h) taken)
  | writeCommandAnswer accepted =>
    refine answers_row (atStage_consistent taken _ _ fun t h => ite_consistent ?_ (attemptFails_consistent taken h _))
    exact (toStage_kept h rfl _).consistent taken
  | dataResponse r =>
    refine answers_row (atStage_consistent taken _ _ fun t h => ?_)
    cases r with
    | accepted => exact (toStage_kept h rfl _).consistent taken
    | checkFailed => exact attemptFails_consistent taken h _
    | refused => exact attemptFails_consistent taken h _
  | busyEnd => exact answers_row (atStage_consistent taken _ _ fun t h => finish_consistent taken h _)
  | noResponse =>
    refine answers_row (atStage_consistent taken _ _ fun t h => ?_)
    exact attemptFails_consistent ((runTo_kept ..).consistent taken) ((runTo_transaction ..).trans h) _
  | busyTimeout =>
    refine answers_row (atStage_consistent taken _ _ fun t h => ?_)
    exact attemptFails_consistent ((runTo_kept ..).consistent taken) ((runTo_transaction ..).trans h) _
  | unitRelease =>
    exact answers_row (ite_consistent (event_consistent (releaseNow_consistent taken)) taken)
  | bitBoundary u => exact kept (ite_kept (beginBit_kept ..) (.refl _))
  | cdetChangeWhileAbsent level => exact kept (ite_kept (mapCard_kept _ _ rfl id) (.refl _))
  | cardBlockBegins =>
    exact answers_next (atStage_consistent taken _ _ fun t h => (toStage_kept h rfl _).consistent taken)
  | lastByteSent =>
    exact answers_next (atStage_consistent taken _ _ fun t h => (toStage_kept h rfl _).consistent taken)

/-- The part's own steps are rows that it takes by itself (log entry 1). -/
theorem ownSteps_exec (s : State) : ∀ p ∈ s.ownSteps, ∃ i, p.2 = exec i := by
  simp only [State.ownSteps, List.forall_mem_cons]
  exact ⟨⟨.resetTakesEffect, rfl⟩, ⟨.unitRelease, rfl⟩, ⟨.commandStart, rfl⟩, ⟨.arbiterGrant, rfl⟩, ⟨.spinUpExpiry 0, rfl⟩,
    ⟨.spinUpExpiry 1, rfl⟩, ⟨.bitBoundary 0, rfl⟩, ⟨.bitBoundary 1, rfl⟩, ⟨.settleExpiry 0, rfl⟩, ⟨.settleExpiry 1, rfl⟩,
    ⟨.ejectHoldExpiry, rfl⟩, ⟨.writeBackDelayExpiry 0, rfl⟩, ⟨.writeBackDelayExpiry 1, rfl⟩,
    ⟨.writeBackDelayExpiry 2, rfl⟩, ⟨.cardDetect, rfl⟩, ⟨.startupTimeout, rfl⟩, ⟨.exchangeTimeout, rfl⟩,
    ⟨.noResponse, rfl⟩, ⟨.busyTimeout, rfl⟩, nofun⟩

theorem idle_consistent {s : State} (m : MediaConsistent s) : MediaConsistent s.idle := by
  unfold State.idle
  split
  · rename_i p h
    obtain ⟨i, e⟩ := ownSteps_exec s p (List.mem_of_find?_eq_some h)
    rw [e]
    have answers := exec_consistent m i
    unfold settleOutcome
    split
    · rename_i t ht
      exact answers t ht
    · exact m
    · exact m
  · exact (now_kept s _).consistent m

theorem pending_kept (s : State) (rest : List Instr) : MediaKept s { s with pending := rest } :=
  ⟨fun _ => rfl, fun _ => rfl, fun _ _ h => h, rfl, rfl, rfl, rfl, rfl, rfl, rfl, id⟩

theorem step_consistent {s t : State} (m : MediaConsistent s) (h : step s = .next t) : MediaConsistent t := by
  unfold step at h
  split at h
  · exact answers_next (idle_consistent m) t h
  · rename_i c rest _
    exact exec_consistent ((pending_kept s rest).consistent m) c t h

/-- Settles O47: the two halves of the invariant are kept by each change of media, slots, the eject record and the
service, and every other operation leaves what they look at. -/
theorem mediaStaysConsistent : Obligations.MediaStaysConsistent := fun _ _ m h => step_consistent m h

end Sys2Proof.Machine
end

section
/-! PROOFS. The order of checks and small parameter fields; O10: DEFINE_FORMAT (R5 to R8). -/

namespace Sys2Proof.Machine

open Sys2Proof.Safety

/-! ### The order of the checks -/

/-- A chain of `if`s makes the checks one at a time: each fails exactly when its parameters do not pass. -/
theorem firstFailure_cons {field item : Nat} {bad good : Prop} [Decidable bad] [Decidable good] {rest : List Check}
    {later : Option (Nat × Nat)} (h : bad ↔ ¬ good) (e : later = firstFailure rest) :
    (if bad then some (field, item) else later) = firstFailure (⟨field, item, decide good⟩ :: rest) := by
  by_cases k : good <;> simp [firstFailure, h, k, e]

theorem firstFailure_append (cs ds : List Check) :
    firstFailure (cs ++ ds) = (firstFailure cs).or (firstFailure ds) := by
  induction cs with
  | nil => rfl
  | cons c cs ih =>
    simp only [List.cons_append, firstFailure]
    split
    · exact ih
    · rfl

theorem firstFailure_eq_none {cs : List Check} : firstFailure cs = none ↔ ∀ c ∈ cs, c.passes = true := by
  induction cs with
  | nil => simp [firstFailure]
  | cons c cs ih =>
    simp only [firstFailure, List.forall_mem_cons]
    split
    · rename_i h
      simp [ih, h]
    · rename_i h
      simp [h]

/-- Some check fails unless all pass. -/
theorem firstFailure_some {cs : List Check} (h : firstFailure cs ≠ none) :
    ∃ field item, firstFailure cs = some (field, item) := by
  obtain ⟨⟨field, item⟩, e⟩ := Option.ne_none_iff_exists'.mp h
  exact ⟨field, item, e⟩

/-! ### Small parameter fields -/

theorem formatIdOf_none {n : Nat} (h : 3 < n) : formatIdOf n = none := dif_neg (by omega)

theorem formatIdOf_val (i : FormatId) : formatIdOf i.val = some i := dif_pos i.isLt

theorem slotIdOf_none {n : Nat} (h : 7 < n) : slotIdOf n = none := dif_neg (by omega)

theorem slotIdOf_val (n : SlotId) : slotIdOf n.val = some n := dif_pos n.isLt

theorem flagOf_none {n : Nat} (h : 1 < n) : flagOf n = none := by
  rw [flagOf, if_neg (by omega), if_neg (by omega)]

theorem flagOf_some {n : Nat} (h : n ≤ 1) : flagOf n = some (n == 1) := by
  interval_cases n <;> rfl

/-- The lowest slot that passes a test. -/
theorem slotIds_find? {p : SlotId → Bool} {n : SlotId} (h : p n = true) (low : ∀ m, m < n → p m = false) :
    slotIds.find? p = some n := by
  have cut : ∀ n : SlotId, slotIds = slotIds.take n.val ++ n :: slotIds.drop (n.val + 1) ∧
      ∀ m ∈ slotIds.take n.val, m < n := by decide
  refine List.find?_eq_some_iff_append.mpr ⟨h, _, _, (cut n).1, fun m hm => ?_⟩
  simp [low m ((cut n).2 m hm)]

theorem references_iff (x : Slot) (i : FormatId) : x.references i = true ↔ x.data.map SlotData.format = some i := by
  unfold Slot.references
  cases x.data <;> simp

/-! ### The checks of DEFINE_FORMAT (R6 to R8) -/

/-- R7: an order list passes as a list when its bytes pass one by one. -/
theorem orderListGood_eq (f : Format) (ps : List Byte) (base : Nat) :
    orderListGood f ((List.range f.sectors).map fun k => byteAt ps (base + k)) =
      orderListPasses ps base f.first f.sectors := by
  have nodup : ((List.range f.sectors).map fun k => byteAt ps (base + k)).Nodup ↔
      ∀ k, k < f.sectors → ∀ j, j < k → byteAt ps (base + j) ≠ byteAt ps (base + k) := by
    simp only [List.Nodup, List.pairwise_iff_getElem, List.length_map, List.length_range, List.getElem_map,
      List.getElem_range]
    exact ⟨fun h k hk j hj => h j k (hj.trans hk) hk hj, fun h j k _ hk hj => h k hk j hj⟩
  rw [Bool.eq_iff_iff]
  simp only [orderListGood, orderListPasses, Bool.and_eq_true, decide_eq_true_eq, List.all_map, List.all_eq_true,
    List.mem_range, Function.comp_apply, nodup, bne_iff_ne]
  exact ⟨fun ⟨range, free⟩ k hk => ⟨range k hk, free k hk⟩, fun h => ⟨fun k hk => (h k hk).1, fun k hk => (h k hk).2⟩⟩

/-- R7: the checks of some order lists, numbered from `n` on. -/
theorem firstFailure_orderLists (f : Format) (ls : List (List Nat)) (n : Nat) :
    firstFailure (ls.mapIdx fun i l => ⟨0x10, n + i, orderListGood f l⟩) =
      (badOrderList f ls n).map fun i => (0x10, i) := by
  induction ls generalizing n with
  | nil => rfl
  | cons l ls ih =>
    have later := ih (n + 1)
    simp only [Nat.add_assoc, Nat.add_comm 1] at later
    simp only [List.mapIdx_cons, firstFailure, badOrderList, later]
    split <;> rfl

/-- R7: the order lists as received and their checks. -/
theorem orderLists_checks (ps : List Byte) :
    ((List.range (byteAt ps 17)).map fun l =>
        (⟨0x10, l, orderListPasses ps (18 + l * byteAt ps 8) (byteAt ps 10) (byteAt ps 8)⟩ : Check)) =
      (formatOf ps).lists.mapIdx fun i l => ⟨0x10, 0 + i, orderListGood (formatOf ps) l⟩ := by
  refine List.ext_getElem (by simp [formatOf, orderLists]) fun i _ _ => ?_
  simp only [List.getElem_map, List.getElem_range, List.getElem_mapIdx, Nat.zero_add, formatOf, orderLists]
  exact congrArg _ (orderListGood_eq (formatOf ps) ps (18 + i * byteAt ps 8)).symm

/-- R8: the content of the track as the checks write it. -/
theorem content_formatOf (ps : List Byte) :
    (formatOf ps).content =
      if byteAt ps 1 = 1 then
        byteAt ps 13 + (if byteAt ps 14 = 1 then 16 + byteAt ps 15 else 0) +
          byteAt ps 8 * (62 + 128 * 2 ^ byteAt ps 9 + byteAt ps 16)
      else
        byteAt ps 13 + (if byteAt ps 14 = 1 then 7 + byteAt ps 15 else 0) +
          byteAt ps 8 * (33 + 128 * 2 ^ byteAt ps 9 + byteAt ps 16) := by
  by_cases mfm : byteAt ps 1 = 1 <;> by_cases mark : byteAt ps 14 = 1 <;>
    simp [Format.content, Format.prefixLen, Format.blockLen, Format.overhead, Format.size, Format.sync, Format.mark,
      formatOf, mfm, mark, Nat.add_assoc]

/-- R6 to R8: the model's checks are those of the statement, in their order. -/
theorem formatProblem_eq (ps : List Byte) : formatProblem ps = firstFailure (formatChecks ps) := by
  unfold formatProblem formatChecks
  simp only [orderLists_checks]
  refine firstFailure_cons ?_ (firstFailure_cons ?_ (firstFailure_cons ?_ (firstFailure_cons ?_ (firstFailure_cons ?_
    (firstFailure_cons ?_ (firstFailure_cons ?_ (firstFailure_cons ?_ (firstFailure_cons ?_ (firstFailure_cons ?_
    (firstFailure_cons ?_ (firstFailure_cons ?_ (firstFailure_cons ?_ ?_))))))))))))
  case refine_14 =>
    rw [List.append_eq, List.append_eq, List.nil_append, firstFailure_append, firstFailure_orderLists]
    cases badOrderList (formatOf ps) (formatOf ps).lists 0 with
    | some n => rfl
    | none =>
      refine firstFailure_cons Nat.not_le.symm (firstFailure_cons ?_ rfl)
      rw [content_formatOf]
      simp [Format.trackBytes, Format.revolution, formatOf]
  case refine_1 | refine_11 => omega
  case refine_2 => simp [formatOf]; omega
  all_goals simp only [formatOf]; omega

/-- The parameters that a DEFINE_FORMAT accepts are those that pass every check. -/
theorem formatAllowed_iff (ps : List Byte) : FormatAllowed ps ↔ firstFailure (formatChecks ps) = none := by
  have lists : (∀ c ∈ (List.range (byteAt ps 17)).map fun l =>
        (⟨0x10, l, orderListPasses ps (18 + l * byteAt ps 8) (byteAt ps 10) (byteAt ps 8)⟩ : Check), c.passes = true) ↔
      ∀ l, l < byteAt ps 17 → ∀ k, k < byteAt ps 8 →
        byteAt ps 10 ≤ byteAt ps (18 + l * byteAt ps 8 + k) ∧
          byteAt ps (18 + l * byteAt ps 8 + k) ≤ byteAt ps 10 + byteAt ps 8 - 1 ∧
          ∀ j, j < k → byteAt ps (18 + l * byteAt ps 8 + j) ≠ byteAt ps (18 + l * byteAt ps 8 + k) := by
    simp [orderListPasses, and_assoc]
  have content : (if byteAt ps 1 = 1 then
          byteAt ps 13 + (if byteAt ps 14 = 1 then 16 + byteAt ps 15 else 0) +
            byteAt ps 8 * (62 + 128 * 2 ^ byteAt ps 9 + byteAt ps 16)
        else
          byteAt ps 13 + (if byteAt ps 14 = 1 then 7 + byteAt ps 15 else 0) +
            byteAt ps 8 * (33 + 128 * 2 ^ byteAt ps 9 + byteAt ps 16)) =
      if byteAt ps 1 = 1 then
        (if byteAt ps 14 = 1 then byteAt ps 13 + 16 + byteAt ps 15 else byteAt ps 13) +
          byteAt ps 8 * (62 + 128 * 2 ^ byteAt ps 9 + byteAt ps 16)
      else
        (if byteAt ps 14 = 1 then byteAt ps 13 + 7 + byteAt ps 15 else byteAt ps 13) +
          byteAt ps 8 * (33 + 128 * 2 ^ byteAt ps 9 + byteAt ps 16) := by
    by_cases mark : byteAt ps 14 = 1 <;> simp [mark, Nat.add_assoc]
  rw [firstFailure_eq_none]
  unfold formatChecks
  simp only [List.forall_mem_append, lists, List.forall_mem_cons, decide_eq_true_eq, beq_iff_eq, content,
    List.not_mem_nil, false_imp_iff, implies_true, and_true]
  unfold FormatAllowed
  constructor
  · rintro ⟨mfm, rate, spin, c1, c2, h1, h2, n1, n2, size, first, i1, i2, skew, mark, gap, count, orders, room, fits⟩
    exact ⟨⟨⟨mfm, rate, spin, ⟨c1, c2⟩, ⟨h1, h2⟩, ⟨n1, n2⟩, size, by omega, ⟨i1, i2⟩, skew, mark, gap, by omega⟩,
      orders⟩, room, fits⟩
  · rintro ⟨⟨⟨mfm, rate, spin, ⟨c1, c2⟩, ⟨h1, h2⟩, ⟨n1, n2⟩, size, first, ⟨i1, i2⟩, skew, mark, gap, count⟩,
      orders⟩, room, fits⟩
    exact ⟨mfm, rate, spin, c1, c2, h1, h2, n1, n2, size, first.2, i1, i2, skew, mark, gap, by omega, orders, room, fits⟩

/-- R171: the descriptor of the model is the one that the parameters spell. -/
theorem formatRead_formatOf (ps : List Byte) : FormatRead ps (formatOf ps) := by
  refine ⟨?_, rfl, rfl, rfl, rfl, rfl, rfl, rfl, rfl, rfl, rfl, by simp [formatOf], rfl, rfl,
    by simp [formatOf, orderLists], fun l hl k hk => ?_⟩
  · simp only [formatOf]
    split <;> simp_all
  · simp [formatOf, orderLists, List.getD_eq_getElem?_getD, hl, hk]

/-! ### DEFINE_FORMAT (R5) -/

/-- A DEFINE_FORMAT of the right length that comes to an unoccupied Command Processor is carried out. -/
theorem exec_defineFormat {s : State} (h : Unoccupied s) {tag : Byte} {ps : List Byte}
    (l : ps.length = 18 + byteAt ps 17 * byteAt ps 8) :
    exec (.defineFormat tag ps) s = .next ((underWay s 0x04 tag ps).defineFormat ps) :=
  congrArg _ (direct_ofLength h l _)

theorem referencing_none {s : State} {i : FormatId} (h : ∀ n, (s.slot n).data.map SlotData.format ≠ some i) :
    s.referencing i = none :=
  List.find?_eq_none.mpr fun n _ => by rw [references_iff]; exact h n

theorem referencing_lowest {s : State} {i : FormatId} {n : SlotId} (h : (s.slot n).data.map SlotData.format = some i)
    (low : ∀ m, m < n → (s.slot m).data.map SlotData.format ≠ some i) : s.referencing i = some n :=
  slotIds_find? ((references_iff _ i).mpr h) fun m hm =>
    Bool.eq_false_iff.mpr fun k => low m hm ((references_iff _ i).mp k)

/-- Settles O10: the model makes the checks of the statement in their order, and accepts what passes them all. -/
theorem formatDefined : Obligations.FormatDefined := by
  intro s tag ps free l
  rw [exec_defineFormat free l]
  unfold State.defineFormat
  refine ⟨fun high => ?_, fun i hi => ⟨fun n hn low => ?_, fun unreferenced => ⟨fun refused => ?_, fun allowed => ?_⟩⟩⟩
  · rw [formatIdOf_none high]
    rfl
  · rw [hi, formatIdOf_val]
    simp only [referencing_lowest (s := underWay s 0x04 tag ps) hn low]
    rfl
  · rw [formatAllowed_iff] at refused
    obtain ⟨field, item, e⟩ := firstFailure_some refused
    refine ⟨field, item, e, ?_⟩
    rw [hi, formatIdOf_val]
    simp only [referencing_none (s := underWay s 0x04 tag ps) unreferenced, formatProblem_eq, e]
    rfl
  · refine ⟨formatOf ps, formatRead_formatOf ps, ?_⟩
    rw [hi, formatIdOf_val]
    simp only [referencing_none (s := underWay s 0x04 tag ps) unreferenced, formatProblem_eq,
      (formatAllowed_iff ps).mp allowed]
    rfl

end Sys2Proof.Machine
end

section
/-! PROOFS. O11 and O12: LOAD_SLOT, UNLOAD_SLOT and SET_PROTECT (R11 to R15, R137). -/

namespace Sys2Proof.Machine

open Sys2Proof.Safety

/-! ### The checks of an extent list (R12, R13) -/

/-- R12: the checks of some extents one by one, numbered from `n` on. -/
theorem firstFailure_extents (field : Nat) {bad good : Extent → Bool} (h : ∀ e, good e = !bad e) (es : List Extent)
    (n : Nat) :
    firstFailure (es.mapIdx fun i e => ⟨field, n + i, good e⟩) = (firstExtent bad es n).map fun i => (field, i) := by
  obtain rfl : good = fun e => !bad e := funext h
  induction es generalizing n with
  | nil => rfl
  | cons e es ih =>
    have later := ih (n + 1)
    simp only [Nat.add_assoc, Nat.add_comm 1] at later
    simp only [List.mapIdx_cons, firstFailure, firstExtent, later]
    cases bad e <;> rfl

/-- Two extents have no card block in common. -/
theorem not_overlaps (d e : Extent) :
    (!d.overlaps e) = (decide (d.start + d.count ≤ e.start) || decide (e.start + e.count ≤ d.start)) := by
  rw [Bool.eq_iff_iff]
  simp only [Extent.overlaps, Bool.not_eq_true', Bool.and_eq_false_iff, decide_eq_false_iff_not, Bool.or_eq_true,
    decide_eq_true_eq]
  omega

/-- R13: the checks of some extents against those before them, numbered from `n` on. -/
theorem firstFailure_overlaps (before es : List Extent) (n : Nat) :
    firstFailure (es.mapIdx fun i e =>
        ⟨0x25, n + i, (before ++ es.take i).all fun d => d.start + d.count ≤ e.start || e.start + e.count ≤ d.start⟩) =
      (firstOverlap before es n).map fun i => (0x25, i) := by
  induction es generalizing before n with
  | nil => rfl
  | cons e es ih =>
    have later := ih (before ++ [e]) (n + 1)
    simp only [Nat.add_assoc, Nat.add_comm 1, List.append_assoc, List.singleton_append] at later
    simp only [List.mapIdx_cons, firstFailure, firstOverlap, List.take_succ_cons, List.take_zero, List.append_nil, later]
    simp only [← not_overlaps, ← List.not_any_eq_all_not]
    cases before.any fun d => d.overlaps e <;> rfl

/-- R13: the image fits the extents. -/
theorem requiredBlocks_le (f : Format) (offset n : Nat) :
    n < requiredBlocks f offset ↔ ¬ offset + f.cylinders * f.sides * f.sectors * f.size ≤ 512 * n := by
  simp only [requiredBlocks, Format.spanLen, Config.blockBytes, Nat.mul_assoc]
  omega

/-- R12, R13: the model's checks are those of the statement, in their order. -/
theorem extentProblem_eq (f : Format) (offset capacity : Nat) (es : List Extent) :
    extentProblem f offset capacity es = firstFailure (extentChecks f offset capacity es) := by
  have counts := firstFailure_extents 0x23 (bad := fun e => e.count = 0) (good := fun e => e.count ≠ 0) (by simp) es 0
  have ends := firstFailure_extents 0x24 (bad := fun e => capacity < e.start + e.count)
    (good := fun e => e.start + e.count ≤ capacity) (fun e => by simp only [← decide_not, Nat.not_lt]) es 0
  have overlaps := firstFailure_overlaps [] es 0
  simp only [Nat.zero_add, List.nil_append] at counts ends overlaps
  unfold extentProblem extentChecks
  simp only [List.append_assoc, List.singleton_append]
  refine firstFailure_cons (by omega) ?_
  rw [List.append_eq, firstFailure_append, counts]
  cases firstExtent (fun e => e.count = 0) es 0 with
  | some n => rfl
  | none =>
    rw [firstFailure_append, ends]
    cases firstExtent (fun e => capacity < e.start + e.count) es 0 with
    | some n => rfl
    | none =>
      rw [firstFailure_append, overlaps]
      cases firstOverlap [] es 0 with
      | some n => rfl
      | none => exact firstFailure_cons (requiredBlocks_le f offset _) rfl

/-- What holds of every entry of a numbered list. -/
theorem forall_mem_mapIdx {α β : Type} {g : Nat → α → β} {p : β → Prop} {xs : List α} :
    (∀ y ∈ xs.mapIdx g, p y) ↔ ∀ i, ∀ h : i < xs.length, p (g i xs[i]) := by
  simp only [List.mem_mapIdx]
  exact ⟨fun h i hi => h _ ⟨i, hi, rfl⟩, by rintro h _ ⟨i, hi, rfl⟩; exact h i hi⟩

/-- The extent lists that a LOAD_SLOT accepts are those that pass every check. -/
theorem extentsAllowed_iff (f : Format) (offset capacity : Nat) (es : List Extent) :
    ExtentsAllowed f offset capacity es ↔ firstFailure (extentChecks f offset capacity es) = none := by
  have apart : (es.Pairwise fun a b => a.start + a.count ≤ b.start ∨ b.start + b.count ≤ a.start) ↔
      ∀ i, ∀ h : i < es.length, ∀ d ∈ es.take i, d.start + d.count ≤ es[i].start ∨ es[i].start + es[i].count ≤ d.start := by
    simp only [List.pairwise_iff_getElem, List.mem_take_iff_getElem]
    constructor
    · rintro h i hi d ⟨j, hj, rfl⟩
      exact h j i (by omega) hi (by omega)
    · exact fun h j i hj hi lt => h i hi _ ⟨j, by omega, rfl⟩
  rw [firstFailure_eq_none]
  unfold ExtentsAllowed extentChecks
  simp only [List.forall_mem_append, List.forall_mem_singleton, forall_mem_mapIdx, apart, decide_eq_true_eq,
    List.all_eq_true, Bool.or_eq_true]
  constructor
  · rintro ⟨some_, few, each, separate, room⟩
    have counts : ∀ e ∈ es, e.count ≠ 0 := fun e he => Nat.ne_of_gt (each e he).1
    have ends : ∀ e ∈ es, e.start + e.count ≤ capacity := fun e he => (each e he).2
    exact ⟨⟨⟨⟨⟨some_, few⟩, fun i h => counts _ (List.getElem_mem h)⟩, fun i h => ends _ (List.getElem_mem h)⟩,
      separate⟩, room⟩
  · rintro ⟨⟨⟨⟨⟨some_, few⟩, counts⟩, ends⟩, separate⟩, room⟩
    refine ⟨some_, few, fun e he => ?_, separate, room⟩
    obtain ⟨i, h, rfl⟩ := List.getElem_of_mem he
    exact ⟨Nat.pos_of_ne_zero (counts i h), ends i h⟩

/-! ### LOAD_SLOT (R11, R14) -/

/-- A LOAD_SLOT of the right length that comes to an unoccupied Command Processor is carried out. -/
theorem exec_loadSlot {s : State} (h : Unoccupied s) {tag : Byte} {ps : List Byte}
    (l : ps.length = 6 + 8 * byteAt ps 5) :
    exec (.loadSlot tag ps) s = .next ((underWay s 0x08 tag ps).loadSlot ps) :=
  congrArg _ (direct_ofLength h l _)

/-- R9: the slots that are MOUNTED. -/
theorem isMounted_iff (x : Slot) : x.isMounted = true ↔ ∃ d, x = .mounted d := by
  cases x <;> simp [Slot.isMounted]

/-- R11: the checks of the slot and of the card pass. -/
theorem loadSlot_describes {s : State} {ps : List Byte} {n : SlotId} (hn : byteAt ps 0 = n.val)
    (ready : s.card.state = .ready) (free : ∀ d, s.slot n ≠ .mounted d) : s.loadSlot ps = s.describeSlot ps n := by
  have unmounted : ¬ (s.slot n).isMounted = true := fun h => ((isMounted_iff _).mp h).elim free
  unfold State.loadSlot
  simp only [hn, slotIdOf_val, ready, ne_eq, not_true_eq_false, if_false, if_neg unmounted]

/-- R11: the format and the protect flag are read, and the extent list breaks R12 or R13. -/
theorem describeSlot_refuses {s : State} {ps : List Byte} {n : SlotId} {i : FormatId} {f : Format} {field item : Nat}
    (hi : byteAt ps 1 = i.val) (hf : look s.formats i = some f) (flag : byteAt ps 2 ≤ 1)
    (e : firstFailure (extentChecks f (wordAt ps 3) (s.card.capacity.getD 0) (extentsOf ps)) = some (field, item)) :
    s.describeSlot ps n = s.endBadParam field item := by
  unfold State.describeSlot
  simp only [hi, formatIdOf_val, Option.bind_some, hf, Option.map_some, flagOf_some flag, extentProblem_eq, e]

/-- R14: every check passes, and the slot is LOADED. -/
theorem describeSlot_loads {s : State} {ps : List Byte} {n : SlotId} {i : FormatId} {f : Format}
    (hi : byteAt ps 1 = i.val) (hf : look s.formats i = some f) (flag : byteAt ps 2 ≤ 1)
    (e : firstFailure (extentChecks f (wordAt ps 3) (s.card.capacity.getD 0) (extentsOf ps)) = none) :
    s.describeSlot ps n =
      (s.setSlot n (.loaded ⟨i, byteAt ps 2 == 1, wordAt ps 3, extentsOf ps⟩)).endCommand .ok [] := by
  unfold State.describeSlot
  simp only [hi, formatIdOf_val, Option.bind_some, hf, Option.map_some, flagOf_some flag, extentProblem_eq, e]

/-- Settles O11: the model makes the checks of the statement in their order, and accepts what passes them all. -/
theorem slotLoaded : Obligations.SlotLoaded := by
  intro s tag ps free l
  rw [exec_loadSlot free l]
  refine ⟨fun high => ?_, fun n hn => ⟨fun absent => ?_, fun ready => ⟨fun d hd => ?_, fun unmounted => ?_⟩⟩⟩
  · rw [State.loadSlot, slotIdOf_none high]
    rfl
  · simp only [State.loadSlot, hn, slotIdOf_val]
    exact congrArg _ (if_pos absent)
  · have mounted : ((underWay s 0x08 tag ps).slot n).isMounted = true := (isMounted_iff _).mpr ⟨d, hd⟩
    simp only [State.loadSlot, hn, slotIdOf_val, if_pos mounted]
    exact congrArg _ (if_neg (not_not.mpr ready))
  · rw [loadSlot_describes (s := underWay s 0x08 tag ps) hn ready unmounted]
    refine ⟨fun undefined => ?_, fun i f hi hf => ⟨fun flag => ?_, fun flag => ⟨fun refused => ?_, fun allowed => ?_⟩⟩⟩
    · have unread : ((formatIdOf (byteAt ps 1)).bind fun i => (look s.formats i).map fun f => (i, f)) = none := by
        obtain high | ⟨i, hi, empty⟩ := undefined
        · rw [formatIdOf_none high]
          rfl
        · rw [hi, formatIdOf_val, Option.bind_some, empty]
          rfl
      unfold State.describeSlot
      rw [show (underWay s 0x08 tag ps).formats = s.formats from rfl, unread]
      rfl
    · unfold State.describeSlot
      simp only [hi, formatIdOf_val, Option.bind_some, show (underWay s 0x08 tag ps).formats = s.formats from rfl, hf,
        Option.map_some, flagOf_none flag]
      rfl
    · rw [extentsAllowed_iff] at refused
      obtain ⟨field, item, e⟩ := firstFailure_some refused
      refine ⟨field, item, e, ?_⟩
      exact congrArg _ (describeSlot_refuses (s := underWay s 0x08 tag ps) hi hf flag e)
    · exact congrArg _
        (describeSlot_loads (s := underWay s 0x08 tag ps) hi hf flag ((extentsAllowed_iff ..).mp allowed))

/-! ### UNLOAD_SLOT and SET_PROTECT (R15, R137) -/

/-- An UNLOAD_SLOT of one byte that comes to an unoccupied Command Processor is carried out. -/
theorem exec_unloadSlot {s : State} (h : Unoccupied s) (tag x : Byte) :
    exec (.unloadSlot tag [x]) s = .next ((underWay s 0x0F tag [x]).unloadSlot [x]) :=
  congrArg _ (direct_ofLength h rfl _)

/-- A SET_PROTECT of two bytes that comes to an unoccupied Command Processor is carried out. -/
theorem exec_setProtect {s : State} (h : Unoccupied s) (tag x y : Byte) :
    exec (.setProtect tag [x, y]) s = .next ((underWay s 0x0E tag [x, y]).setProtect [x, y]) :=
  congrArg _ (direct_ofLength h rfl _)

/-- A byte that names a slot is the slot's number. -/
theorem toNat_slot (n : SlotId) : (BitVec.ofNat 8 n.val).toNat = n.val := by
  rw [BitVec.toNat_ofNat]
  omega

theorem byteAt_zero (x : Byte) (xs : List Byte) : byteAt (x :: xs) 0 = x.toNat := rfl

theorem byteAt_one (x y : Byte) (xs : List Byte) : byteAt (x :: y :: xs) 1 = y.toNat := rfl

/-- A flag byte is 1 as a byte when it is 1 as a number. -/
theorem toNat_beq_one (y : Byte) : (y.toNat == 1) = (y == 1) := by
  rw [Bool.eq_iff_iff, beq_iff_eq, beq_iff_eq, BitVec.toNat_eq]
  rfl

/-- R137: the checks of SET_PROTECT pass. -/
theorem setProtect_sets {s : State} {n : SlotId} {y : Byte} (flag : y.toNat ≤ 1) (described : s.slot n ≠ .vacant) :
    s.setProtect [BitVec.ofNat 8 n.val, y] =
      (s.setSlot n ((s.slot n).withProtect (y == 1))).endCommand .ok [] := by
  simp only [State.setProtect, byteAt_zero, byteAt_one, toNat_slot, slotIdOf_val, flagOf_some flag, toNat_beq_one,
    if_neg described]

/-- Settles O12, by the branches of the two commands. -/
theorem slotsKept : Obligations.SlotsKept := by
  intro s tag x y
  refine ⟨fun free => ?_, fun free => ?_⟩
  · rw [exec_unloadSlot free]
    unfold State.unloadSlot
    refine ⟨fun high => ?_, fun n hn => ⟨fun d hd => ?_, fun unmounted => ?_⟩⟩
    · rw [byteAt_zero, slotIdOf_none high]
      rfl
    · have mounted : ((underWay s 0x0F tag [x]).slot n).isMounted = true := (isMounted_iff _).mpr ⟨d, hd⟩
      subst hn
      simp only [byteAt_zero, toNat_slot, slotIdOf_val, if_pos mounted]
      rfl
    · have unmounted : ¬ ((underWay s 0x0F tag [x]).slot n).isMounted = true :=
        fun h => ((isMounted_iff _).mp h).elim unmounted
      subst hn
      simp only [byteAt_zero, toNat_slot, slotIdOf_val, if_neg unmounted]
      rfl
  · rw [exec_setProtect free]
    refine ⟨fun high => ?_, fun n hn => ?_⟩
    · rw [State.setProtect, byteAt_zero, slotIdOf_none high]
      rfl
    · subst hn
      have described {z : Slot} (hz : s.slot n = z) (k : z ≠ .vacant) :
          (underWay s 0x0E tag [BitVec.ofNat 8 n.val, y]).slot n ≠ .vacant := fun e => k (hz.symm.trans e)
      refine ⟨fun high => ?_, fun flag => ⟨fun vacant => ?_, fun d hd => ?_, fun d hd => ?_⟩⟩
      · simp only [State.setProtect, byteAt_zero, byteAt_one, toNat_slot, slotIdOf_val, flagOf_none high]
        rfl
      · simp only [State.setProtect, byteAt_zero, byteAt_one, toNat_slot, slotIdOf_val, flagOf_some flag]
        exact congrArg _ (if_pos vacant)
      · rw [setProtect_sets flag (described hd nofun), show (underWay s 0x0E tag _).slot n = _ from hd]
        rfl
      · rw [setProtect_sets flag (described hd nofun), show (underWay s 0x0E tag _).slot n = _ from hd]
        rfl

end Sys2Proof.Machine
end

section
/-! PROOFS. O53: slot orders (R3, R25 to R27). -/

namespace Sys2Proof.Machine

open Sys2Proof.Safety

/-! ### Lists of places, some of them taken -/

/-- A free place is taken. -/
theorem reduceOption_set {α : Type} {xs : List (Option α)} {q : Nat} (h : xs[q]? = some none) (x : α) :
    (xs.set q (some x)).reduceOption.Perm (x :: xs.reduceOption) := by
  induction xs generalizing q with
  | nil => simp at h
  | cons o xs ih =>
    cases q with
    | zero =>
      obtain rfl : o = none := by simpa using h
      exact .rfl
    | succ q =>
      have later := ih (q := q) (by simpa using h)
      cases o with
      | none => exact later
      | some y => exact (later.cons y).trans (.swap x y _)

/-- With every place taken, the list is that of its entries. -/
theorem map_getD_eq_reduceOption {xs : List (Option Nat)} (h : ∀ o ∈ xs, o.isSome = true) :
    xs.map (fun o => o.getD 0) = xs.reduceOption := by
  induction xs with
  | nil => rfl
  | cons o xs ih =>
    obtain ⟨taken, rest⟩ := List.forall_mem_cons.mp h
    obtain ⟨y, rfl⟩ := Option.isSome_iff_exists.mp taken
    exact congrArg (y :: ·) (ih rest)

/-! ### The interleave (R26) -/

/-- R26: going round the track from `p`, the walk comes to a free slot when one stands within its reach. -/
theorem freeSlot_free {placed : List (Option Nat)} {sectors : Nat} (l : placed.length = sectors) {fuel p d : Nat}
    (hp : p < sectors) (hd : d < fuel) (free : placed[(p + d) % sectors]? = some none) :
    placed[freeSlot placed sectors fuel p]? = some none := by
  induction fuel generalizing p d with
  | zero => omega
  | succ fuel ih =>
    unfold freeSlot
    split
    next x taken =>
      cases d with
      | zero => simp [Nat.mod_eq_of_lt hp, taken] at free
      | succ d =>
        refine ih (d := d) (Nat.mod_lt _ (by omega)) (by omega) ?_
        rwa [Nat.mod_add_mod, Nat.add_assoc, Nat.add_comm 1]
    next untaken =>
      have here : placed[p]? = some placed[p] := List.getElem?_eq_getElem (l ▸ hp)
      cases e : placed[p] with
      | none => rw [here, e]
      | some x => exact absurd (here.trans (congrArg some e)) (untaken x)

/-- The first `j` logical sectors stand on the track, each once. -/
def Placed (f : Format) (j : Nat) (placed : List (Option Nat)) : Prop :=
  placed.length = f.sectors ∧ placed.reduceOption.Perm ((List.range j).map fun i => f.first + i)

theorem placed_replicate (f : Format) : Placed f 0 (List.replicate f.sectors none) :=
  ⟨List.length_replicate, by simp [List.reduceOption_replicate_none]⟩

theorem placed_reduceOption_length {f : Format} {j : Nat} {placed : List (Option Nat)} (h : Placed f j placed) :
    placed.reduceOption.length = j := by
  simpa using h.2.length_eq

/-- R26: while sectors are left, the walk from any slot comes to a free one. -/
theorem placed_freeSlot {f : Format} {j p : Nat} {placed : List (Option Nat)} (h : Placed f j placed)
    (hj : j < f.sectors) (hp : p < f.sectors) : placed[freeSlot placed f.sectors f.sectors p]? = some none := by
  obtain ⟨q, hq, free⟩ : ∃ q, ∃ hq : q < placed.length, placed[q] = none := by
    by_contra full
    have all : ∀ o ∈ placed, o.isSome = true := fun o ho => by
      obtain ⟨q, hq, rfl⟩ := List.getElem_of_mem ho
      exact Option.isSome_iff_ne_none.mpr fun e => full ⟨q, hq, e⟩
    have count := List.reduceOption_length_eq_iff.mpr all
    rw [placed_reduceOption_length h, h.1] at count
    omega
  have round : (p + (q + f.sectors - p) % f.sectors) % f.sectors = q := by
    rw [Nat.add_mod_mod, show p + (q + f.sectors - p) = q + f.sectors by omega, Nat.add_mod_right,
      Nat.mod_eq_of_lt (h.1 ▸ hq)]
  refine freeSlot_free h.1 hp (Nat.mod_lt (q + f.sectors - p) (by omega)) ?_
  rw [round, List.getElem?_eq_getElem hq, free]

/-- R26: one more sector is placed. -/
theorem placed_set {f : Format} {j q : Nat} {placed : List (Option Nat)} (h : Placed f j placed)
    (free : placed[q]? = some none) : Placed f (j + 1) (placed.set q (some (f.first + j))) := by
  refine ⟨by rw [List.length_set, h.1], (reduceOption_set free _).trans ?_⟩
  rw [List.range_succ, List.map_append]
  exact (h.2.cons _).trans (List.perm_append_singleton _ _).symm

/-- R26: all the sectors that are left are placed. -/
theorem placed_placeSectors {f : Format} {left j p : Nat} {placed : List (Option Nat)} (h : Placed f j placed)
    (all : j + left = f.sectors) (hp : p < f.sectors) : Placed f f.sectors (placeSectors f left j p placed) := by
  induction left generalizing j p placed with
  | zero => exact all ▸ h
  | succ left ih =>
    exact ih (placed_set h (placed_freeSlot h (by omega) hp)) (by omega) (Nat.mod_lt _ (by omega))

/-- R26, I = 1: with sectors in the slots below `j`, the others go to the slots from `j` on in their order. -/
theorem placeSectors_one {f : Format} (one : f.interleave = 1) {left j : Nat} (all : j + left = f.sectors) :
    placeSectors f left j (j % f.sectors)
        (((List.range j).map fun i => some (f.first + i)) ++ List.replicate left none) =
      (List.range f.sectors).map fun i => some (f.first + i) := by
  induction left generalizing j with
  | zero => simp [placeSectors, ← all]
  | succ left ih =>
    have here : j % f.sectors = j := Nat.mod_eq_of_lt (by omega)
    have free : freeSlot (((List.range j).map fun i => some (f.first + i)) ++ List.replicate (left + 1) none) f.sectors
        f.sectors j = j := by
      obtain ⟨n, hn⟩ : ∃ n, f.sectors = n + 1 := ⟨f.sectors - 1, by omega⟩
      simp [hn, freeSlot]
    unfold placeSectors
    simp only [here, free, one]
    rw [← ih (j := j + 1) (by omega)]
    simp [List.range_succ, List.replicate_succ, List.set_append_right]

/-! ### The arrangement (R25, R26) -/

/-- R25: an order list that keeps R3 holds each sector number of the track once. -/
theorem orderList_perm {f : Format} {l : List Nat}
    (h : l.length = f.sectors ∧ l.Nodup ∧ ∀ x ∈ l, f.first ≤ x ∧ x ≤ f.first + f.sectors - 1) :
    l.Perm ((List.range f.sectors).map fun j => f.first + j) := by
  obtain ⟨length, nodup, range⟩ := h
  refine (nodup.subperm fun x hx => ?_).perm_of_length_le (by simp [length])
  obtain ⟨low, high⟩ := range x hx
  have bound : x - f.first < f.sectors := by
    have := List.length_pos_of_mem hx
    omega
  exact List.mem_map.mpr ⟨x - f.first, List.mem_range.mpr bound, by omega⟩

/-- R25, R26: the arrangement holds each sector number of the track once. -/
theorem arrangement_perm {f : Format} (some_ : 1 ≤ f.sectors)
    (lists : ∀ l ∈ f.lists, l.length = f.sectors ∧ l.Nodup ∧ ∀ x ∈ l, f.first ≤ x ∧ x ≤ f.first + f.sectors - 1)
    (head : Nat) : (f.arrangement head).Perm ((List.range f.sectors).map fun j => f.first + j) := by
  unfold Format.arrangement
  split
  next =>
    have all := placed_placeSectors (placed_replicate f) (Nat.zero_add _) some_
    have full : ∀ o ∈ placeSectors f f.sectors 0 0 (List.replicate f.sectors none), o.isSome = true :=
      List.reduceOption_length_eq_iff.mp ((placed_reduceOption_length all).trans all.1.symm)
    rw [map_getD_eq_reduceOption full]
    exact all.2
  next l e => exact orderList_perm (lists l (by simp [e]))
  next l m rest e =>
    split
    · exact orderList_perm (lists l (by simp [e]))
    · exact orderList_perm (lists m (by simp [e]))

/-- R26: with no lists and I = 1, sector F + k stands in slot k. -/
theorem arrangement_one {f : Format} (none_ : f.lists = []) (one : f.interleave = 1) (head : Nat) :
    f.arrangement head = (List.range f.sectors).map fun k => f.first + k := by
  have placed := placeSectors_one one (Nat.zero_add f.sectors)
  simp only [Nat.zero_mod, List.range_zero, List.map_nil, List.nil_append] at placed
  simp [Format.arrangement, none_, placed]

/-! ### The rotation (R27) -/

/-- R27: the slot order is the arrangement, turned. -/
theorem slotOrder_eq_rotate {f : Format} {head : Nat} (l : (f.arrangement head).length = f.sectors) (cylinder : Nat) :
    f.slotOrder cylinder head = (f.arrangement head).rotate (f.sectors - cylinder * f.skew % f.sectors) := by
  refine List.ext_getElem (by simp [Format.slotOrder, l]) fun k hk _ => ?_
  have inside : (k + (f.sectors - cylinder * f.skew % f.sectors)) % f.sectors < (f.arrangement head).length := by
    rw [l]
    refine Nat.mod_lt _ (Nat.pos_of_ne_zero fun none_ => ?_)
    simp [Format.slotOrder, none_] at hk
  simp only [Format.slotOrder, List.getElem_map, List.getElem_range, List.getElem_rotate, l,
    List.getD_eq_getElem _ _ inside]

/-- R27: turning forth and back. -/
theorem rotation_back {sectors k r : Nat} (h : k < sectors) :
    ((k + r) % sectors + (sectors - r % sectors)) % sectors = k := by
  have below : r % sectors < sectors := Nat.mod_lt r (by omega)
  rw [Nat.mod_add_mod, Nat.add_assoc, Nat.add_mod, ← Nat.mod_add_mod r,
    show r % sectors + (sectors - r % sectors) = sectors by omega, Nat.mod_self, Nat.add_zero, Nat.mod_mod,
    Nat.mod_eq_of_lt h]

/-- Settles O53: the arrangement is a permutation by the places taken, and the slot order turns it. -/
theorem slotOrderPermutes : Obligations.SlotOrderPermutes := by
  rintro f c h ⟨-, -, -, -, -, -, some_, -, -, -, -, -, -, -, -, lists, -, -⟩ -
  have perm := arrangement_perm some_ lists h
  have length : (f.arrangement h).length = f.sectors := by simpa using perm.length_eq
  have turned := slotOrder_eq_rotate length c
  refine ⟨by rw [turned, List.length_rotate, length], turned ▸ ((List.rotate_perm _ _).trans perm), fun k hk => ?_,
    fun l e => by simp [Format.arrangement, e], fun l m e => by simp [Format.arrangement, e],
    fun none_ one => arrangement_one none_ one h⟩
  rw [turned, List.getElem?_rotate (by rw [length]; exact Nat.mod_lt _ some_), length, rotation_back hk]

end Sys2Proof.Machine
end

section
/-! PROOFS. O55: image arithmetic (R16 to R18). -/

namespace Sys2Proof.Machine

open Sys2Proof.Safety

/-! ### Extent lists (R18) -/

/-- R13: no two extents of a list have a card block in common. -/
def ExtentsApart (es : List Extent) : Prop :=
  es.Pairwise fun a b => a.start + a.count ≤ b.start ∨ b.start + b.count ≤ a.start

theorem cardBlockIn_isSome {es : List Extent} {i : Nat} :
    (cardBlockIn es i).isSome = true ↔ i < (es.map Extent.count).sum := by
  induction es generalizing i with
  | nil => simp [cardBlockIn]
  | cons e es ih =>
    simp only [cardBlockIn, List.map_cons, List.sum_cons]
    split
    next here => simp only [Option.isSome_some, true_iff]; omega
    next later => rw [ih]; omega

theorem cardBlockIn_mem {es : List Extent} {i c : Nat} (h : cardBlockIn es i = some c) :
    ∃ e ∈ es, e.start ≤ c ∧ c < e.start + e.count := by
  induction es generalizing i with
  | nil => cases h
  | cons e es ih =>
    unfold cardBlockIn at h
    split at h
    next here =>
      cases h
      exact ⟨e, List.mem_cons_self, Nat.le_add_right _ _, Nat.add_lt_add_left here _⟩
    next later =>
      obtain ⟨d, hd, place⟩ := ih h
      exact ⟨d, List.mem_cons_of_mem e hd, place⟩

/-- The card block of an image block lies in the list at that image block, and, the extents being apart, nowhere
else. -/
theorem imageBlockIn_cardBlockIn {es : List Extent} (apart : ExtentsApart es) {i c : Nat}
    (h : cardBlockIn es i = some c) (cum : Nat) : imageBlockIn es cum c = some (cum + i) := by
  induction es generalizing i cum with
  | nil => cases h
  | cons e es ih =>
    obtain ⟨first, rest⟩ := List.pairwise_cons.mp apart
    unfold cardBlockIn at h
    split at h
    next here =>
      cases h
      rw [imageBlockIn, if_pos ⟨Nat.le_add_right _ _, Nat.add_lt_add_left here _⟩, Nat.add_sub_cancel_left]
    next later =>
      obtain ⟨d, hd, low, high⟩ := cardBlockIn_mem h
      have outside : ¬ (e.start ≤ c ∧ c < e.start + e.count) := by
        have := first d hd
        omega
      rw [imageBlockIn, if_neg outside, ih rest h]
      congr 1
      omega

/-! ### The spans of tracks (R16) -/

/-- R16: a track's number in its image. -/
theorem trackNumber_ne {f : Format} {c h c' h' : Nat} (a : h < f.sides) (b : h' < f.sides) (ne : (c, h) ≠ (c', h')) :
    c * f.sides + h ≠ c' * f.sides + h' := by
  intro e
  have cylinder {c h : Nat} (a : h < f.sides) : (c * f.sides + h) / f.sides = c := by
    rw [Nat.mul_comm, Nat.mul_add_div (by omega), Nat.div_eq_of_lt a, Nat.add_zero]
  have head {c h : Nat} (a : h < f.sides) : (c * f.sides + h) % f.sides = h := by
    rw [Nat.mul_comm, Nat.mul_add_mod, Nat.mod_eq_of_lt a]
  exact ne (Prod.ext ((cylinder a).symm.trans (e ▸ cylinder b)) ((head a).symm.trans (e ▸ head b)))

/-- Pieces of one length, numbered, do not overlap. -/
theorem pieces_apart {m n : Nat} (h : m < n) (len base : Nat) : base + m * len + len ≤ base + n * len := by
  rw [Nat.add_assoc, ← Nat.succ_mul]
  exact Nat.add_le_add_left (Nat.mul_le_mul_right _ h) _

theorem spans_apart {f : Format} {d : SlotData} {c h c' h' : Nat} (a : f.inside c h = true) (b : f.inside c' h' = true)
    (ne : (c, h) ≠ (c', h')) :
    spanStart f d c h + f.spanLen ≤ spanStart f d c' h' ∨ spanStart f d c' h' + f.spanLen ≤ spanStart f d c h := by
  simp only [Format.inside, Bool.and_eq_true, decide_eq_true_eq] at a b
  exact (Nat.lt_or_gt_of_ne (trackNumber_ne a.2 b.2 ne)).imp (fun h => pieces_apart h _ _) fun h => pieces_apart h _ _

/-- R16: a byte of a run of `n` pieces of one length lies in exactly one of them. -/
theorem piece_unique {start size n a : Nat} (low : start ≤ a) (high : a < start + n * size) :
    ∃ k, k < n ∧ start + k * size ≤ a ∧ a < start + k * size + size ∧
      ∀ j, start + j * size ≤ a → a < start + j * size + size → j = k := by
  have pos : 0 < size := Nat.pos_of_ne_zero fun e => by simp only [e] at high; omega
  have whole := Nat.div_add_mod (a - start) size
  have part := Nat.mod_lt (a - start) pos
  rw [Nat.mul_comm] at whole
  refine ⟨(a - start) / size, Nat.div_lt_of_lt_mul ?_, by omega, by omega, fun j l h => ?_⟩
  · rw [Nat.mul_comm]
    omega
  · refine (Nat.div_eq_of_lt_le ?_ ?_).symm
    · omega
    · rw [Nat.succ_mul]
      omega

/-- R16: each byte of a span lies in exactly one sector of the track. -/
theorem sector_unique {p : Span} {sectors a : Nat} (l : p.length = sectors * p.size) (low : p.start ≤ a)
    (high : a < p.start + p.length) :
    ∃ r, p.first ≤ r ∧ r < p.first + sectors ∧ p.sectorStart r ≤ a ∧ a < p.sectorStart r + p.size ∧
      ∀ q, p.first ≤ q → q < p.first + sectors → p.sectorStart q ≤ a → a < p.sectorStart q + p.size → q = r := by
  obtain ⟨k, hk, left, right, unique⟩ := piece_unique low (l ▸ high)
  refine ⟨p.first + k, by omega, by omega, ?_, ?_, fun q first _ ql qr => ?_⟩
  · rwa [Span.sectorStart, Nat.add_sub_cancel_left]
  · rwa [Span.sectorStart, Nat.add_sub_cancel_left]
  · have := unique (q - p.first) ql qr
    omega

/-! ### The image blocks of a span (R17) -/

/-- R17: an image block of a span is one that holds a byte of it. -/
theorem span_blocks (p : Span) (pos : 0 < p.length) (b : Nat) :
    (∃ o, o < 512 ∧ p.start ≤ 512 * b + o ∧ 512 * b + o < p.start + p.length) ↔ p.firstBlock ≤ b ∧ b ≤ p.lastBlock := by
  unfold Span.firstBlock Span.lastBlock Config.blockBytes
  constructor
  · rintro ⟨o, _, _, _⟩
    omega
  · intro _
    exact ⟨max p.start (512 * b) - 512 * b, by omega, by omega, by omega⟩

/-- R17: an interior block is one whose bytes all lie in the span. -/
theorem interior_iff (p : Span) (b : Nat) :
    p.interior b = true ↔ ∀ o, o < 512 → p.start ≤ 512 * b + o ∧ 512 * b + o < p.start + p.length := by
  simp only [Span.interior, Span.range, Config.blockBytes, decide_eq_true_eq, Prod.mk.injEq]
  constructor
  · intro _ o _
    omega
  · intro h
    have first := h 0 (by omega)
    have last := h 511 (by omega)
    omega

/-- R17: the offsets of an image block that lie in the span. -/
theorem range_iff (p : Span) (b : Nat) {o : Nat} (h : o < 512) :
    (p.range b).1 ≤ o ∧ o < (p.range b).2 ↔ p.start ≤ 512 * b + o ∧ 512 * b + o < p.start + p.length := by
  simp only [Span.range, Config.blockBytes]
  omega

theorem firstBlock_edge {p : Span} (h : p.start % 512 ≠ 0) : p.interior p.firstBlock = false := by
  refine Bool.eq_false_iff.mpr fun k => ?_
  have first := (interior_iff p _).mp k 0 (by omega)
  simp only [Span.firstBlock, Config.blockBytes] at first
  omega

theorem lastBlock_edge {p : Span} (_ : 0 < p.length) (h : (p.start + p.length) % 512 ≠ 0) :
    p.interior p.lastBlock = false := by
  refine Bool.eq_false_iff.mpr fun k => ?_
  have last := (interior_iff p _).mp k 511 (by omega)
  simp only [Span.lastBlock, Config.blockBytes] at last
  omega

/-- Settles O55: extent lists by induction, spans and blocks by their bounds. -/
theorem blocksTranslated : Obligations.BlocksTranslated := by
  refine ⟨fun es apart => ⟨fun _ => cardBlockIn_isSome, fun i c h => ⟨cardBlockIn_mem h, ?_⟩, fun i j c hi hj => ?_⟩,
    fun f d c h c' h' => spans_apart, fun f d c h size sectors => ?_⟩
  · rw [imageBlockIn_cardBlockIn apart h, Nat.zero_add]
  · have both := (imageBlockIn_cardBlockIn apart hi 0).symm.trans (imageBlockIn_cardBlockIn apart hj 0)
    simpa using both
  · have pos : 0 < f.spanLen := Nat.mul_pos sectors size
    refine ⟨?_, rfl, fun a => sector_unique rfl, span_blocks _ pos, fun b _ _ => ⟨interior_iff _ b, fun o => range_iff _ b⟩,
      firstBlock_edge, lastBlock_edge pos⟩
    simp only [spanStart, Format.spanLen, Nat.mul_assoc]

end Sys2Proof.Machine
end

section
/-! PROOFS. O3: the reset state; O51: the figures of rotation and the encodings of bytes (R8, R19 to R21, R70 to R74). -/

namespace Sys2Proof.Machine

open Sys2Proof.Safety

/-! ### The state after reset -/

theorem reset_format (u : DriveId) : State.reset.format u = none := by
  simp [State.format, State.image, UnitState.reset]

theorem reset_position (u : DriveId) : State.reset.position u = 0 := by
  rw [State.position, reset_format]

/-- Settles O3, by the parts of the reset state. -/
theorem resetValues : Obligations.ResetValues := by
  refine ⟨by decide, by decide, rfl, rfl, rfl, rfl, rfl, rfl, by decide, rfl, rfl, rfl, rfl, rfl,
    fun u => ?_, fun b => ?_, rfl, look_replicate _, rfl, rfl, rfl, rfl, rfl, rfl, rfl, rfl, rfl, rfl, rfl, rfl, rfl,
    rfl, rfl, rfl, rfl, rfl, rfl, rfl, rfl, rfl, rfl, rfl, rfl, look_replicate _, reset_slot, rfl, rfl, rfl, rfl, rfl,
    rfl, rfl, rfl, rfl, rfl, rfl, rfl, rfl, rfl, rfl⟩
  · rw [reset_unit, reset_position]
    exact ⟨rfl, rfl, rfl, rfl, rfl, rfl, rfl, rfl, rfl, rfl, rfl, rfl⟩
  · rw [reset_buffer]
    exact ⟨rfl, rfl, rfl, rfl, rfl, rfl, rfl, rfl, rfl⟩

/-! ### Rotation (R8, R19 to R21) -/

/-- R20: at a rate that divides the clock, every bit takes the same whole number of ticks. -/
theorem bitTick_whole {f : Format} {rate n : Nat} (hr : f.rate = rate) (pos : 0 < rate) (whole : rate * n = 16000)
    (j : Nat) : f.bitTick j = j * (16000 / rate) := by
  have ticks : j * 16000000 = j * n * (rate * 1000) := by
    rw [show 16000000 = rate * n * 1000 by rw [whole]]
    ring
  rw [Format.bitTick, hr, ticks, Nat.mul_div_cancel _ (by omega), ← whole, Nat.mul_div_cancel_left _ pos]

/-- R20: the rates at which bits take a whole number of ticks. -/
theorem bitTick_rate {f : Format} (h : f.rate = 125 ∨ f.rate = 250 ∨ f.rate = 500) (j : Nat) :
    f.bitTick j = j * (16000 / f.rate) := by
  obtain h | h | h := h
  · exact bitTick_whole (n := 128) rfl (by omega) (by omega) j
  · exact bitTick_whole (n := 64) rfl (by omega) (by omega) j
  · exact bitTick_whole (n := 32) rfl (by omega) (by omega) j

/-- R8, R19, R21: the figures of a revolution follow from the rate and the spin. -/
theorem revolution_figures {f : Format} {rate spin l : Nat} (hr : f.rate = rate) (hs : f.spin = spin)
    (e : rate * 1000 * 60 / spin = l) : f.revolution = l ∧ f.trackBytes = l / 8 ∧ f.indexBits = 2 * rate := by
  subst hr hs e
  refine ⟨rfl, rfl, ?_⟩
  unfold Format.indexBits
  omega

theorem rotation_figures (f : Format) (rate spin l : Nat)
    (h : (rate, spin, l) ∈ [(125, 300, 25000), (125, 360, 20833), (250, 300, 50000), (250, 360, 41666),
      (300, 300, 60000), (300, 360, 50000), (500, 300, 100000), (500, 360, 83333)])
    (hr : f.rate = rate) (hs : f.spin = spin) :
    f.revolution = l ∧ f.trackBytes = l / 8 ∧ f.indexBits = 2 * rate ∧
      (rate ≠ 300 → ∀ j, f.bitTick j = j * (16000 / rate)) := by
  have table : rate * 1000 * 60 / spin = l ∧ (rate ≠ 300 → rate = 125 ∨ rate = 250 ∨ rate = 500) := by
    simp only [List.mem_cons, Prod.mk.injEq, List.not_mem_nil, or_false] at h
    obtain ⟨rfl, rfl, rfl⟩ | ⟨rfl, rfl, rfl⟩ | ⟨rfl, rfl, rfl⟩ | ⟨rfl, rfl, rfl⟩ | ⟨rfl, rfl, rfl⟩ | ⟨rfl, rfl, rfl⟩ |
      ⟨rfl, rfl, rfl⟩ | ⟨rfl, rfl, rfl⟩ := h <;> omega
  obtain ⟨revolution, trackBytes, indexBits⟩ := revolution_figures hr hs table.1
  exact ⟨revolution, trackBytes, indexBits, fun other j => hr ▸ bitTick_rate (hr ▸ table.2 other) j⟩

/-- R20, R74: at 300 kbit/s bits and half-cells begin at the next whole tick below. -/
theorem ticks_300 {f : Format} (h : f.rate = 300) :
    [0, 1, 2, 3, 4, 5, 6].map f.bitTick = [0, 53, 106, 160, 213, 266, 320] ∧
      [0, 1, 2, 3, 4, 5, 6].map f.cellTick = [0, 26, 53, 80, 106, 133, 160] := by
  simp [Format.bitTick, Format.cellTick, h]

/-- R70: the remainder after the three A1 bytes of a mark. -/
theorem crc_marks : crc 0xFFFF [0xA1, 0xA1, 0xA1] = 0xCDB4 := by
  have first : crcByte 0xFFFF 0xA1 = 0x443B := by decide
  have second : crcByte 0x443B 0xA1 = 0x968B := by decide
  have third : crcByte 0x968B 0xA1 = 0xCDB4 := by decide
  rw [crc, List.foldl_cons, List.foldl_cons, List.foldl_cons, List.foldl_nil, first, second, third]

/-- Settles O51: the figures of rotation by their divisions, the encodings by evaluation. -/
theorem bytesEncoded : Obligations.BytesEncoded :=
  ⟨fun f => ⟨rotation_figures f, ticks_300⟩, by decide, by decide, by decide, by decide, by decide, crc_marks⟩

end Sys2Proof.Machine
end

section
/-! PROOFS. What a reaction leaves of the units and of the write window, an eject in progress or not: captures leave the
units, an eject that goes on changes media and mounted slots alone, and what follows the rotations changes read streams
alone (R30, R31, R66, R82, R115, R132). -/

namespace Sys2Proof.Machine

open Sys2Proof.Safety

/-! ### Captures leave the units -/

theorem ite_units {p : Prop} [Decidable p] {s a b : State} (h : a.units = s.units) (k : b.units = s.units) :
    (if p then a else b).units = s.units := by
  split
  · exact h
  · exact k

theorem reportField_units (s : State) (w : Window) (k : ReportKind) (detail : Nat) :
    (s.reportField w k detail).units = s.units := (report_frame s _).units

theorem judge_units (s : State) (f : Format) (w : Window) : (s.judge f w).units = s.units := by
  unfold State.judge
  simp only []
  split
  · exact (report_frame ..).units
  · exact ((report_frame ..).trans (handCapture_frame ..)).units

theorem closeCapture_units (s : State) (w : Window) : (s.closeCapture w).units = s.units := by
  unfold State.closeCapture
  split
  · exact reportField_units ..
  · split
    · rfl
    · exact judge_units ..
  · rfl

theorem openWindow_units (s : State) (u : DriveId) : (s.openWindow u).units = s.units := by
  unfold State.openWindow
  split
  · rfl
  · exact ite_units (report_frame ..).units rfl

theorem gateEdge_units (s : State) : s.gateEdge.units = s.units := by
  unfold State.gateEdge
  split
  · rfl
  · exact ite_units (openWindow_units ..) rfl

theorem followGate_units (old s : State) : (State.followGate old s).units = s.units := ite_units (gateEdge_units s) rfl

theorem followConflict_units (s : State) (closed : Bool) : (s.followConflict closed).units = s.units := by
  unfold State.followConflict
  split
  · split
    · rfl
    · exact (report_frame ..).units
  · rfl

theorem completeField_units (s : State) (f : Format) (w : Window) : (s.completeField f w).units = s.units := by
  unfold State.completeField
  simp only []
  split
  · exact reportField_units ..
  · split
    · exact reportField_units ..
    · exact ite_units (handCapture_frame (s.mapWcu Wcu.endField) _).units (reportField_units ..)

theorem receiveByte_units (s : State) (f : Format) (w : Window) (b : Byte) : (s.receiveByte f w b).units = s.units := by
  unfold State.receiveByte
  exact ite_units (completeField_units ..) rfl

theorem foundHunting_units (s : State) (f : Format) (w : Window) (x : Found) :
    (s.foundHunting f w x).units = s.units := by
  cases x with
  | nothing | idMark | dataMark | indexMark => rfl
  | badMark => exact (report_frame s _).units

theorem foundSeeking_units (s : State) (f : Format) (x : Found) : (s.foundSeeking f x).units = s.units := by
  cases x <;> rfl

theorem fieldCell_units (s : State) {take : State → Byte → State} (h : ∀ t b, (take t b).units = t.units) :
    (s.fieldCell take).units = s.units := ite_units rfl (h _ _)

theorem passCell_units (s : State) (f : Format) (w : Window) (c : Option Nat) : (s.passCell f w c).units = s.units := by
  unfold State.passCell
  simp only []
  split
  · rfl
  · exact foundHunting_units ..
  · exact fieldCell_units (s.mapWcu _) fun t b => receiveByte_units t f w b
  · split
    · exact fieldCell_units (s.mapWcu _) fun _ _ => rfl
    · exact fieldCell_units (s.mapWcu _) fun _ _ => rfl
    · exact foundSeeking_units ..

theorem passZeros_units (s : State) (f : Format) (w : Window) (n : Nat) : (s.passZeros f w n).units = s.units := by
  induction n generalizing s with
  | zero => rfl
  | succ n ih => exact (ih _).trans (passCell_units s f w none)

theorem loseLock_units (s : State) (w : Window) : (s.loseLock w).units = s.units := by
  unfold State.loseLock
  simp only []
  split
  · exact reportField_units (s.mapWcu _) ..
  · rfl
  · rfl

theorem interval_units (s : State) (f : Format) (w : Window) (t stamp : Nat) :
    (s.interval f w t stamp).units = s.units := by
  unfold State.interval
  refine ite_units (ite_units ?_ rfl) (ite_units (loseLock_units ..) rfl)
  exact (passCell_units ..).trans (passZeros_units (s.mapWcu _) ..)

/-- R85: a write transition leaves the units as they are. -/
theorem transition_units (s : State) (t : Option Nat) : (s.transition t).units = s.units := by
  unfold State.transition
  split
  · rfl
  · split
    · rfl
    · split
      · rfl
      · simp only []
        split
        · rfl
        · exact interval_units (s.mapWcu _) ..

theorem unit_of_units {s t : State} (h : t.units = s.units) (u : DriveId) : t.unit u = s.unit u :=
  congrArg (look · u) h

/-! ### An eject that goes on -/

/-- What an eject that goes on leaves as it is: every item of a unit but its media and its mounted slot, and the write
window. -/
structure EjectFrame (s t : State) : Prop where
  units : ∀ u, t.unit u = { s.unit u with media := (t.unit u).media, mounted := (t.unit u).mounted }
  window : t.wcu.window = s.wcu.window

theorem EjectFrame.refl (s : State) : EjectFrame s s := ⟨fun _ => rfl, rfl⟩

theorem EjectFrame.trans {s t x : State} (h : EjectFrame s t) (k : EjectFrame t x) : EjectFrame s x where
  units u := by rw [k.units u, h.units u]
  window := k.window.trans h.window

theorem EjectFrame.of_units {s t : State} (h : t.units = s.units) (w : t.wcu.window = s.wcu.window) : EjectFrame s t :=
  ⟨fun u => by rw [unit_of_units h], w⟩

theorem CacheFrame.ejectFrame {s t : State} (h : CacheFrame s t) : EjectFrame s t :=
  .of_units h.units (by rw [h.wcu])

theorem ite_ejectFrame {p : Prop} [Decidable p] {s a b : State} (h : EjectFrame s a) (k : EjectFrame s b) :
    EjectFrame s (if p then a else b) := by
  split
  · exact h
  · exact k

theorem setMedia_ejectFrame (s : State) (u : DriveId) (m : Media) (n : Option SlotId) :
    EjectFrame s (s.setMedia u m n) := by
  refine ⟨fun v => ?_, rfl⟩
  rw [State.setMedia, unit_setUnit]
  split
  · rename_i e; rw [e]
  · rfl

theorem setSlot_ejectFrame (s : State) (n : SlotId) (x : Slot) : EjectFrame s (s.setSlot n x) := .of_units rfl rfl

theorem setEject_ejectFrame (s : State) (r : Option EjectRecord) : EjectFrame s (s.setEject r) := .of_units rfl rfl

theorem endCommand_ejectFrame (s : State) (r : ResultCode) (p : List Byte) : EjectFrame s (s.endCommand r p) :=
  .of_units (by simp) (by simp)

theorem report_ejectFrame (s : State) (r : Report) : EjectFrame s (s.report r) := (report_frame s r).ejectFrame

theorem completeEject_ejectFrame (s : State) (r : EjectRecord) : EjectFrame s (s.completeEject r) := by
  unfold State.completeEject
  simp only []
  refine ((EjectFrame.trans ?_ (report_ejectFrame ..)).trans (setEject_ejectFrame ..)).trans (endCommand_ejectFrame ..)
  have emptied := (releaseUnit_frame s r.unit).ejectFrame.trans
    (setMedia_ejectFrame (s.releaseUnit r.unit) r.unit .empty none)
  split
  · refine EjectFrame.trans ?_ (report_ejectFrame ..)
    split
    · exact emptied
    · exact emptied.trans (setSlot_ejectFrame ..)
  · split
    · exact emptied
    · exact emptied.trans (setSlot_ejectFrame ..)

theorem tryRelease_ejectFrame (s : State) (r : EjectRecord) : EjectFrame s (s.tryRelease r) :=
  ite_ejectFrame ((withdrawUnit_frame ..).ejectFrame.trans (setEject_ejectFrame ..)) (completeEject_ejectFrame ..)

theorem refuseEject_ejectFrame (s : State) (r : EjectRecord) : EjectFrame s (s.refuseEject r) :=
  (((setMedia_ejectFrame ..).trans (setEject_ejectFrame ..)).trans (report_ejectFrame ..)).trans
    (endCommand_ejectFrame ..)

theorem releaseNow_ejectFrame (s : State) : EjectFrame s s.releaseNow := by
  unfold State.releaseNow
  split
  · exact .refl s
  · exact ite_ejectFrame (completeEject_ejectFrame ..) (.refl s)

theorem settleService_ejectFrame (fuel : Nat) (s : State) : EjectFrame s (State.settleService fuel s) := by
  induction fuel generalizing s with
  | zero => exact .refl s
  | succ fuel ih =>
    unfold State.settleService
    split
    · exact .refl s
    · rename_i v _
      have ended := (setCache_frame s { s.cache with service := none }).ejectFrame
      have again := (ended.trans (startService_frame _ v.units).ejectFrame).trans (ih _)
      refine ite_ejectFrame (.refl s) ?_
      split
      · exact ite_ejectFrame (ended.trans (refuseEject_ejectFrame ..))
          (ite_ejectFrame again (ended.trans (tryRelease_ejectFrame ..)))
      · exact ite_ejectFrame (ended.trans (endCommand_ejectFrame ..))
          (ite_ejectFrame again (ended.trans (endCommand_ejectFrame ..)))

theorem requestService_ejectFrame (s : State) (units : List DriveId) : EjectFrame s (s.requestService units) :=
  (startService_frame ..).ejectFrame.trans (settleService_ejectFrame ..)

theorem leaveHold_ejectFrame (s : State) : EjectFrame s s.leaveHold := by
  unfold State.leaveHold
  split
  · exact .refl s
  · split
    · split
      · exact (setEject_ejectFrame ..).trans (requestService_ejectFrame ..)
      · exact tryRelease_ejectFrame ..
    · exact .refl s

/-- R82, R132: the close of a window leaves of a unit everything but its media and its mounted slot, and no window. -/
theorem closeWindow_unit (s : State) (u : DriveId) :
    s.closeWindow.unit u =
      { s.unit u with media := (s.closeWindow.unit u).media, mounted := (s.closeWindow.unit u).mounted } := by
  unfold State.closeWindow
  split
  · rfl
  · rename_i w _
    let closed := (s.closeCapture w).mapWcu Wcu.closed
    have same : closed.unit u = s.unit u := unit_of_units (closeCapture_units s w) u
    have kept := (ite_ejectFrame (p := (closed.unit w.key.unit).media = .ejecting) (leaveHold_ejectFrame closed)
      (.refl closed)).units u
    rw [same] at kept
    exact kept

theorem closeWindow_window (s : State) : s.closeWindow.wcu.window = none := by
  unfold State.closeWindow
  split
  · assumption
  · exact (ite_ejectFrame (leaveHold_ejectFrame _) (.refl _)).window

/-! ### The stages of a reaction -/

theorem level_congr {s t : State} (profile : t.profile = s.profile) (pins : t.pins = s.pins) (i : Input) :
    t.level i = s.level i := by
  simp only [State.level, State.pinOf, profile, pins]

/-- A reaction up to its look at the open window and the select conflict (log entry 17). -/
def windowFollowed (old s : State) : State :=
  (State.followWindow old (motorsFollowed old s)).followConflict (motorsFollowed old s).wcu.window.isSome

/-- A reaction up to its look at the rotations. -/
def rotationsFollowed (old s : State) : State := driveIds.foldl (State.followRotation old) (windowFollowed old s)

/-- A reaction up to the cache's part in it, the fill retries and TRACK_MISS. -/
def cacheFollowed (old s : State) : State :=
  driveIds.foldl (State.trackMiss old) (driveIds.foldl (State.firstArrival old)
    (State.followDemand old (driveIds.foldl (State.flushOnStop old) (rotationsFollowed old s))))

/-- A reaction up to the modes. -/
def gateFollowed (old s : State) : State := State.followGate old (cacheFollowed old s)

theorem react_eq (old s : State) : react old s = driveIds.foldl (State.takeMode old) (gateFollowed old s) := rfl

theorem cacheFollowed_frame (old s : State) : CacheFrame (rotationsFollowed old s) (cacheFollowed old s) :=
  (((foldl_cacheFrame _ (flushOnStop_frame old) driveIds _).trans (followDemand_frame old _)).trans
    (foldl_cacheFrame _ (fun _ _ => ite_cacheFrame (retryFill_frame ..) (.refl _)) driveIds _)).trans
    (foldl_cacheFrame _ (trackMiss_frame old) driveIds _)

theorem gateFollowed_unit (old s : State) (u : DriveId) :
    (gateFollowed old s).unit u = (rotationsFollowed old s).unit u :=
  unit_of_units ((followGate_units ..).trans (cacheFollowed_frame old s).units) u

theorem windowFollowed_wide (old s : State) : WideFrame s (windowFollowed old s) :=
  ((motorsFollowed_frame old s).wide.trans (ite_wideFrame (closeWindow_wide _) (.refl _))).trans
    (followConflict_frame ..).wide

/-- R82, R112, R116, R132: up to the rotations a reaction changes a unit's motor, and media that an eject takes. -/
theorem windowFollowed_unit (old s : State) (u : DriveId) :
    (windowFollowed old s).unit u =
      { (motorsFollowed old s).unit u with
        media := ((windowFollowed old s).unit u).media, mounted := ((windowFollowed old s).unit u).mounted } := by
  have conflict : ∀ (x : State) (c : Bool), (x.followConflict c).unit u = x.unit u := fun x c =>
    unit_of_units (followConflict_units x c) u
  unfold windowFollowed State.followWindow
  rw [conflict]
  split
  · exact closeWindow_unit ..
  · rfl

/-! ### Rotations (R30, R31) -/

theorem rotating_congr {s t : State} {u : DriveId} (motor : (t.unit u).motor = (s.unit u).motor)
    (media : (t.unit u).media = (s.unit u).media) : t.rotating u = s.rotating u := by
  rw [State.rotating, motor, media, State.rotating]

/-- R30, R31: a rotation that starts or stops comes to position 0, and one that starts begins now. -/
def UnitState.turned (x : UnitState) (before after : Bool) (now : Nat) : UnitState :=
  if before = after then x
  else { x with bitCount := 0, rotationStart := if after then now else x.rotationStart }

theorem followRotation_unit (old s : State) (u : DriveId) :
    (State.followRotation old s u).unit u = (s.unit u).turned (old.rotating u) (s.rotating u) s.now := by
  unfold State.followRotation UnitState.turned
  cases old.rotating u <;> cases s.rotating u <;> simp [State.startRotation, State.stopRotation]

theorem followRotation_other (old s : State) {u v : DriveId} (h : v ≠ u) :
    (State.followRotation old s u).unit v = s.unit v := by
  unfold State.followRotation
  split
  · exact unit_setUnit_ne _ _ h
  · exact unit_setUnit_ne _ _ h
  · rfl

theorem rotationsFollowed_unit (old s : State) (u : DriveId) :
    (rotationsFollowed old s).unit u =
      ((windowFollowed old s).unit u).turned (old.rotating u) ((windowFollowed old s).rotating u) s.now := by
  have now : (windowFollowed old s).now = s.now := (windowFollowed_wide old s).now
  show (State.followRotation old (State.followRotation old (windowFollowed old s) 0) 1).unit u = _
  match u with
  | 0 => rw [followRotation_other _ _ (by decide), followRotation_unit, now]
  | 1 =>
    have other : (State.followRotation old (windowFollowed old s) 0).unit 1 = (windowFollowed old s).unit 1 :=
      followRotation_other _ _ (by decide)
    rw [followRotation_unit, other, rotating_congr (congrArg _ other) (congrArg _ other),
      (followRotation_frame old (windowFollowed old s) 0).now, now]

/-- After the rotations a reaction changes a unit's read stream alone. -/
theorem react_stream (old s : State) (u : DriveId) :
    StreamKept ((rotationsFollowed old s).unit u) ((react old s).unit u) := by
  rw [← gateFollowed_unit]
  exact (takeModes_frame old (gateFollowed old s)).units u

theorem react_rotating (old s : State) (u : DriveId) :
    (react old s).rotating u = (windowFollowed old s).rotating u := by
  have stream := react_stream old s u
  unfold StreamKept at stream
  refine rotating_congr ?_ ?_
  all_goals
    rw [stream, rotationsFollowed_unit]
    unfold UnitState.turned
    split <;> rfl

/-- A reaction leaves of a unit everything but its motor, its media and mounted slot, its rotation and its read
stream. -/
theorem react_unit (old s : State) (u : DriveId) :
    ∃ x : UnitState,
      x = { s.unit u with
            motor := ((motorsFollowed old s).unit u).motor, spinUpDue := ((motorsFollowed old s).unit u).spinUpDue
            media := x.media, mounted := x.mounted } ∧
      StreamKept (x.turned (old.rotating u) ((react old s).rotating u) s.now) ((react old s).unit u) := by
  refine ⟨(windowFollowed old s).unit u, ?_, ?_⟩
  · rw [windowFollowed_unit, (motorsFollowed_frame old s).units u]
  · rw [react_rotating, ← rotationsFollowed_unit]
    exact react_stream old s u

/-- R30, R31: the position of a unit after a reaction. -/
theorem react_rotation (old s : State) (u : DriveId) :
    ((react old s).unit u).bitCount = (if old.rotating u = (react old s).rotating u then (s.unit u).bitCount else 0) ∧
      ((react old s).unit u).rotationStart =
        (if old.rotating u = false ∧ (react old s).rotating u = true then s.now else (s.unit u).rotationStart) := by
  obtain ⟨x, kept, stream⟩ := react_unit old s u
  have bitCount : x.bitCount = (s.unit u).bitCount := by rw [kept]
  have start : x.rotationStart = (s.unit u).rotationStart := by rw [kept]
  unfold StreamKept at stream
  rw [stream]
  unfold UnitState.turned
  generalize (react old s).rotating u = after
  cases old.rotating u <;> cases after <;> simp [bitCount, start]

/-- A reaction moves no head and no motor but by the motor signals, an eject in progress or not. -/
theorem react_head (old s : State) (u : DriveId) :
    HeadSame s (react old s) u ∧ ((react old s).unit u).motor = ((motorsFollowed old s).unit u).motor ∧
      ((react old s).unit u).spinUpDue = ((motorsFollowed old s).unit u).spinUpDue := by
  obtain ⟨x, kept, stream⟩ := react_unit old s u
  have turned : ∀ a b n, x.turned a b n = { x with
      rotationStart := (x.turned a b n).rotationStart, bitCount := (x.turned a b n).bitCount } := by
    intro a b n
    unfold UnitState.turned
    split <;> rfl
  unfold StreamKept at stream
  rw [HeadSame, stream, turned, kept]
  exact ⟨⟨rfl, rfl, rfl, rfl⟩, rfl, rfl⟩

/-! ### The write window (R82) -/

/-- R82: without an edge of WGATE a reaction opens no window. -/
theorem react_window {old s : State} (gate : ¬ (old.level .wgate = false ∧ s.level .wgate = true)) :
    (react old s).wcu.window = (State.followWindow old (motorsFollowed old s)).wcu.window := by
  have conflict : ∀ (x : State) (c : Bool), (x.followConflict c).wcu.window = x.wcu.window := fun x c => by
    unfold State.followConflict
    split
    · split
      · rfl
      · rw [(report_frame ..).wcu]
    · rfl
  have rotations : (rotationsFollowed old s).wcu = (windowFollowed old s).wcu := by
    have one : ∀ x u, (State.followRotation old x u).wcu = x.wcu := fun x u => by
      unfold State.followRotation
      split <;> rfl
    exact (one ..).trans (one ..)
  have level : (cacheFollowed old s).level .wgate = s.level .wgate := by
    have frame : WideFrame s (cacheFollowed old s) :=
      ((windowFollowed_wide old s).trans (foldl_eventFrame _ (followRotation_frame old) driveIds _).wide).trans
        (cacheFollowed_frame old s).wide
    exact level_congr frame.profile frame.pins _
  rw [react_eq, (takeModes_frame old _).rest]
  show (State.followGate old (cacheFollowed old s)).wcu.window = _
  unfold State.followGate
  rw [level, if_neg gate, (cacheFollowed_frame old s).wcu, rotations]
  exact conflict ..

/-- R82: a reaction without an edge of WGATE keeps the window or closes it. -/
theorem react_window_cases {old s : State} (gate : ¬ (old.level .wgate = false ∧ s.level .wgate = true)) :
    (react old s).wcu.window = none ∨
      (react old s).wcu.window = s.wcu.window ∧ State.closes old (motorsFollowed old s) = false := by
  rw [react_window gate]
  unfold State.followWindow
  split
  · exact .inl (closeWindow_window _)
  · refine .inr ⟨by rw [(motorsFollowed_frame old s).rest], ?_⟩
    rename_i open_
    exact Bool.eq_false_iff.mpr open_

/-- R82: with no window open, or one that closes, and no edge of WGATE, none is open after a reaction. -/
theorem react_window_none {old s : State} (h : s.wcu.window = none ∨ State.closes old (motorsFollowed old s) = true)
    (gate : ¬ (old.level .wgate = false ∧ s.level .wgate = true)) : (react old s).wcu.window = none := by
  obtain shut | ⟨same, open_⟩ := react_window_cases gate
  · exact shut
  · obtain shut | closes := h
    · exact same.trans shut
    · exact absurd closes (Bool.eq_false_iff.mp open_)

end Sys2Proof.Machine
end

section
/-! PROOFS. How the rotation goes on (R20, R29, R49, R65 to R76), said finely: which items of the units and of the
buffers a turn can change, and what it leaves of the demand, the holders of keys and the modes. -/

namespace Sys2Proof.Machine

open Sys2Proof.Safety

/-! ### What the modes look at (R66) -/

theorem holder_congr {s t : State} {k : Key} (h : ∀ b, (t.buffer b).holds k = (s.buffer b).holds k) :
    t.holder k = s.holder k := by
  simp only [State.holder, h]

theorem resident_congr {s t : State} {k : Key} (h : ∀ b, (t.buffer b).holds k = (s.buffer b).holds k)
    (r : ∀ b, (t.buffer b).state.resident = (s.buffer b).state.resident) : t.resident k = s.resident k := by
  simp only [State.resident, holder_congr h, r]

theorem format_congr {s t : State} {u : DriveId} (mounted : (t.unit u).mounted = (s.unit u).mounted)
    (slots : t.slots = s.slots) (formats : t.formats = s.formats) : t.format u = s.format u := by
  simp only [State.format, State.image, State.slot, mounted, slots, formats]

theorem keyInside_congr {s t : State} {k : Key} (h : t.format k.unit = s.format k.unit) :
    t.keyInside k = s.keyInside k := by
  simp only [State.keyInside, h]

theorem modeOf_congr {s t : State} {u : DriveId} (media : (t.unit u).media = (s.unit u).media)
    (motor : (t.unit u).motor = (s.unit u).motor) (settle : (t.unit u).settleDue = (s.unit u).settleDue)
    (window : t.wcu.window = s.wcu.window) (key : t.key u = s.key u) (format : t.format u = s.format u)
    (resident : t.resident (s.key u) = s.resident (s.key u)) : t.modeOf u = s.modeOf u := by
  have inside : t.keyInside (s.key u) = s.keyInside (s.key u) := keyInside_congr format
  unfold State.modeOf
  rw [media, motor, settle, key, inside, resident, State.windowOf, window, State.windowOf]

/-! ### A unit that turns -/

/-- R65: a QUIET unit has no transitions, previous data bit 0 and no hold. -/
def UnitState.Hushed (x : UnitState) : Prop :=
  x.mode = .quiet → x.prevBit = false ∧ x.hold = false ∧ x.clockCell = false ∧ x.dataCell = false

/-- What the turning of a unit can change of it: the bit under the head and what the stream makes of it. -/
structure UnitTurning (x y : UnitState) : Prop where
  rest : y =
    { x with
      bitCount := y.bitCount, prevBit := y.prevBit, hold := y.hold, taken := y.taken, clockCell := y.clockCell
      dataCell := y.dataCell }
  hushed : x.Hushed → y.Hushed

theorem UnitTurning.refl (x : UnitState) : UnitTurning x x := ⟨rfl, id⟩

theorem UnitTurning.trans {x y z : UnitState} (h : UnitTurning x y) (k : UnitTurning y z) : UnitTurning x z :=
  ⟨by rw [k.rest, h.rest], k.hushed ∘ h.hushed⟩

/-- R49: a buffer is as it was, or its fill has begun again. -/
structure Refilled (x y : Buffer) : Prop where
  rest : y = { x with state := y.state, fillClass := y.fillClass, fillRetries := y.fillRetries, block := y.block }
  state : y.state = x.state ∨ (x.state = .unreadable ∧ y.state = .filling)

theorem Refilled.refl (x : Buffer) : Refilled x x := ⟨rfl, .inl rfl⟩

theorem Refilled.trans {x y z : Buffer} (h : Refilled x y) (k : Refilled y z) : Refilled x z := by
  refine ⟨by rw [k.rest, h.rest], ?_⟩
  obtain e | ⟨a, b⟩ := h.state
  · rw [← e]; exact k.state
  · obtain c | ⟨c, -⟩ := k.state
    · exact .inr ⟨a, c.trans b⟩
    · rw [b] at c; cases c

theorem Refilled.holds {x y : Buffer} (h : Refilled x y) (k : Key) : y.holds k = x.holds k := by
  have key : y.key = x.key := by rw [h.rest]
  have fate : y.fate = x.fate := by rw [h.rest]
  unfold Buffer.holds
  rw [key, fate]
  obtain e | ⟨a, b⟩ := h.state
  · rw [e]
  · rw [a, b]; rfl

theorem Refilled.resident {x y : Buffer} (h : Refilled x y) : y.state.resident = x.state.resident := by
  obtain e | ⟨a, b⟩ := h.state
  · rw [e]
  · rw [a, b]; rfl

/-- What the turning of units leaves as it is. -/
structure TurnFrame (s t : State) : Prop where
  rest : t =
    { s with units := t.units, buffers := t.buffers, card := { s.card with requests := t.card.requests } }
  buffers : ∀ b, Refilled (s.buffer b) (t.buffer b)
  units : ∀ u, UnitTurning (s.unit u) (t.unit u)
  still : ∀ u, s.rotating u = false → t.unit u = s.unit u

namespace TurnFrame

theorem refl (s : State) : TurnFrame s s := ⟨rfl, fun _ => .refl _, fun _ => .refl _, fun _ _ => rfl⟩

variable {s t x : State} (h : TurnFrame s t)
include h

theorem rotating (u : DriveId) : t.rotating u = s.rotating u :=
  rotating_congr (by rw [(h.units u).rest]) (by rw [(h.units u).rest])

theorem trans (k : TurnFrame t x) : TurnFrame s x where
  rest := by rw [k.rest, h.rest]
  buffers b := (h.buffers b).trans (k.buffers b)
  units u := (h.units u).trans (k.units u)
  still u r := (k.still u ((h.rotating u).trans r)).trans (h.still u r)

theorem format (u : DriveId) : t.format u = s.format u :=
  format_congr (by rw [(h.units u).rest]) (by rw [h.rest]) (by rw [h.rest])

theorem level (i : Input) : t.level i = s.level i := level_congr (by rw [h.rest]) (by rw [h.rest]) i

theorem key (u : DriveId) : t.key u = s.key u := by
  have cylinder : (t.unit u).cylinder = (s.unit u).cylinder := by rw [(h.units u).rest]
  simp only [State.key, State.head, cylinder, h.level]

theorem demand (u : DriveId) : t.demand u = s.demand u := by
  have media : (t.unit u).media = (s.unit u).media := by rw [(h.units u).rest]
  have motor : (t.unit u).motor = (s.unit u).motor := by rw [(h.units u).rest]
  have inside : t.keyInside (s.key u) = s.keyInside (s.key u) := keyInside_congr (h.format _)
  unfold State.demand
  rw [media, motor, h.key, inside]

theorem holder (k : Key) : t.holder k = s.holder k := holder_congr fun b => (h.buffers b).holds k

theorem modeOf (u : DriveId) : t.modeOf u = s.modeOf u :=
  modeOf_congr (by rw [(h.units u).rest]) (by rw [(h.units u).rest]) (by rw [(h.units u).rest]) (by rw [h.rest])
    (h.key u) (h.format u) (resident_congr (fun b => (h.buffers b).holds _) fun b => (h.buffers b).resident)

theorem entriesOf (k : Key) : t.entriesOf k = s.entriesOf k := by
  have entries : ∀ b, (t.buffer b).entries = (s.buffer b).entries := fun b => by rw [(h.buffers b).rest]
  simp only [State.entriesOf, h.holder, entries]

end TurnFrame

theorem ite_turnFrame {p : Prop} [Decidable p] {s a b : State} (h : TurnFrame s a) (k : TurnFrame s b) :
    TurnFrame s (if p then a else b) := by
  split
  · exact h
  · exact k

theorem setUnit_turnFrame {s : State} {u : DriveId} (r : s.rotating u = true) {x : UnitState}
    (h : UnitTurning (s.unit u) x) : TurnFrame s (s.setUnit u x) := by
  have unit : ∀ v, v = u ∧ (s.setUnit u x).unit v = x ∨ v ≠ u ∧ (s.setUnit u x).unit v = s.unit v := fun v => by
    rw [unit_setUnit]
    split
    · exact .inl ⟨‹_›, rfl⟩
    · exact .inr ⟨‹_›, rfl⟩
  refine ⟨rfl, fun _ => .refl _, fun v => ?_, fun v k => ?_⟩
  · obtain ⟨rfl, e⟩ | ⟨-, e⟩ := unit v
    · rw [e]; exact h
    · rw [e]; exact .refl _
  · obtain ⟨rfl, e⟩ | ⟨-, e⟩ := unit v
    · rw [r] at k; cases k
    · exact e

theorem setBuffer_turnFrame {s : State} {b : BufferId} {x : Buffer} (h : Refilled (s.buffer b) x) :
    TurnFrame s (s.setBuffer b x) := by
  refine ⟨rfl, fun c => ?_, fun _ => .refl _, fun _ _ => rfl⟩
  rw [buffer_setBuffer]
  split
  · rename_i e; rw [e]; exact h
  · exact .refl _

theorem post_turnFrame (s : State) (kind : TransKind) (block : Nat) (q : Requester) (cls : Nat)
    (range : Option (Nat × Nat)) : TurnFrame s (s.post kind block q cls range) :=
  ⟨rfl, fun _ => .refl _, fun _ => .refl _, fun _ _ => rfl⟩

theorem postFill_turnFrame (s : State) (b : BufferId) : TurnFrame s (s.postFill b) := by
  unfold State.postFill
  split
  · exact .refl s
  · split
    · exact .refl s
    · exact post_turnFrame ..

theorem startFill_turnFrame (s : State) (b : BufferId) : TurnFrame s (s.startFill b) := by
  unfold State.startFill
  split
  · exact .refl s
  · split
    · exact .refl s
    · exact (setBuffer_turnFrame (by exact ⟨rfl, .inl rfl⟩)).trans (postFill_turnFrame ..)

/-- R49: an index arrival fills an UNREADABLE buffer again, at most. -/
theorem retryFill_turnFrame (s : State) (u : DriveId) : TurnFrame s (s.retryFill u) := by
  unfold State.retryFill
  split
  · exact .refl s
  · split
    · exact .refl s
    · split
      · rename_i unreadable
        exact (setBuffer_turnFrame (by exact ⟨rfl, .inr ⟨unreadable.1, rfl⟩⟩)).trans (startFill_turnFrame ..)
      · exact .refl s

/-- Without a demand key an index arrival changes nothing (R49). -/
theorem retryFill_demandless {s : State} {u : DriveId} (h : s.demand u = none) : s.retryFill u = s := by
  rw [State.retryFill, h]

/-! ### Bits -/

/-- R65: a QUIET unit at a later bit, with no transitions. -/
theorem emitBit_turnFrame {s : State} {u : DriveId} (r : s.rotating u = true) : TurnFrame s (s.emitBit u) := by
  unfold State.emitBit
  split
  · exact .refl s
  · simp only []
    split
    · exact setUnit_turnFrame r ⟨rfl, fun _ _ => ⟨rfl, rfl, rfl, rfl⟩⟩
    · rename_i loud
      exact ite_turnFrame (setUnit_turnFrame r ⟨rfl, fun _ q => absurd q loud⟩)
        (setUnit_turnFrame r ⟨rfl, fun _ q => absurd q loud⟩)

theorem passBits_turnFrame {s : State} {u : DriveId} (r : s.rotating u = true) (n : Nat) :
    TurnFrame s (s.passBits u n) := by
  unfold State.passBits
  split
  · exact .refl s
  · refine ite_turnFrame (.refl s) ?_
    split
    · exact setUnit_turnFrame r ⟨rfl, id⟩
    · rename_i loud
      exact setUnit_turnFrame r ⟨rfl, fun _ q => absurd (.inl q) loud⟩

/-- A turning unit before bit `n` of it is emitted: the bits before are passed, and an index arrival among them or at
`n` has been (R49). -/
def State.atBit (s : State) (f : Format) (u : DriveId) (n : Nat) : State :=
  let s1 := s.passBits u n
  let s2 := s1.setUnit u { s1.unit u with bitCount := n }
  if (s.unit u).bitCount / f.revolution < n / f.revolution then s2.retryFill u else s2

theorem runToBit_eq {s : State} {u : DriveId} {f : Format} (h : s.format u = some f) {n : Nat}
    (lt : (s.unit u).bitCount < n) : s.runToBit u n = (s.atBit f u n).emitBit u := by
  unfold State.runToBit
  rw [h]
  exact if_pos lt

theorem atBit_turnFrame {s : State} {u : DriveId} (r : s.rotating u = true) (f : Format) (n : Nat) :
    TurnFrame s (s.atBit f u n) := by
  have passed := passBits_turnFrame r n
  have at_n := passed.trans (setUnit_turnFrame ((passed.rotating u).trans r)
    (x := { (s.passBits u n).unit u with bitCount := n }) ⟨rfl, id⟩)
  exact ite_turnFrame (at_n.trans (retryFill_turnFrame ..)) at_n

theorem runToBit_turnFrame {s : State} {u : DriveId} (r : s.rotating u = true) (n : Nat) :
    TurnFrame s (s.runToBit u n) := by
  unfold State.runToBit
  split
  · exact .refl s
  · rename_i f _
    have at_n := atBit_turnFrame r f n
    exact ite_turnFrame (at_n.trans (emitBit_turnFrame ((at_n.rotating u).trans r))) (.refl s)

theorem turnTo_turnFrame (s : State) (u : DriveId) (t : Nat) : TurnFrame s (s.turnTo u t) := by
  unfold State.turnTo
  split
  · split
    · exact .refl s
    · exact runToBit_turnFrame ‹_› _
  · exact .refl s

/-- The clock has been brought to a moment, and the units not yet. -/
theorem runTo_turnFrame (s : State) (m : Nat) : TurnFrame { s with now := max s.now m } (s.runTo m) := by
  unfold State.runTo
  exact ite_turnFrame ((turnTo_turnFrame ..).trans (turnTo_turnFrame ..))
    ((turnTo_turnFrame ..).trans (turnTo_turnFrame ..))

theorem beginBit_turnFrame {s : State} {u : DriveId} (r : s.rotating u = true) (n : Nat) {f : Format}
    (h : s.format u = some f) :
    TurnFrame { s with now := max s.now ((s.unit u).rotationStart + f.bitTick n) } (s.beginBit u n) := by
  unfold State.beginBit
  rw [h]
  have other := turnTo_turnFrame { s with now := max s.now ((s.unit u).rotationStart + f.bitTick n) } (otherUnit u)
    (max s.now ((s.unit u).rotationStart + f.bitTick n))
  exact other.trans (runToBit_turnFrame ((other.rotating u).trans r) n)

end Sys2Proof.Machine
end

section
/-! PROOFS. O48: what the streams invariant looks at, what leaves it as it is, and what a reaction makes of it (R29,
R65 to R67). -/

namespace Sys2Proof.Machine

open Sys2Proof.Safety

/-! ### The invariant and what leaves it as it is -/

theorem TurnFrame.streams {s t : State} (h : TurnFrame s t) (m : StreamsConsistent s) : StreamsConsistent t := by
  obtain ⟨modes, hushed, still⟩ := m
  refine ⟨fun u => ?_, fun u => (h.units u).hushed (hushed u), fun u r => ?_⟩
  · rw [h.modeOf, (h.units u).rest]
    exact modes u
  · rw [h.rotating] at r
    rw [h.still u r]
    exact still u r

/-- What the streams invariant looks at is as it was. -/
structure StreamsKept (s t : State) : Prop where
  units : t.units = s.units
  profile : t.profile = s.profile
  pins : t.pins = s.pins
  window : t.wcu.window = s.wcu.window
  format : ∀ u, t.format u = s.format u
  holds : ∀ b k, (t.buffer b).holds k = (s.buffer b).holds k
  resident : ∀ b, (t.buffer b).state.resident = (s.buffer b).state.resident

theorem StreamsKept.streams {s t : State} (h : StreamsKept s t) (m : StreamsConsistent s) : StreamsConsistent t := by
  obtain ⟨modes, hushed, still⟩ := m
  have unit := unit_of_units h.units
  have key : ∀ u, t.key u = s.key u := fun u => by
    simp only [State.key, State.head, unit, level_congr h.profile h.pins]
  refine ⟨fun u => ?_, fun u => by rw [unit]; exact hushed u, fun u r => ?_⟩
  · rw [unit, modeOf_congr (by rw [unit]) (by rw [unit]) (by rw [unit]) h.window (key u) (h.format u)
      (resident_congr (fun b => h.holds b _) h.resident)]
    exact modes u
  · rw [unit]
    refine still u ?_
    rwa [rotating_congr (s := s) (by rw [unit]) (by rw [unit])] at r

theorem StreamsKept.refl (s : State) : StreamsKept s s :=
  ⟨rfl, rfl, rfl, rfl, fun _ => rfl, fun _ _ => rfl, fun _ => rfl⟩

theorem StreamsKept.trans {s t x : State} (h : StreamsKept s t) (k : StreamsKept t x) : StreamsKept s x where
  units := k.units.trans h.units
  profile := k.profile.trans h.profile
  pins := k.pins.trans h.pins
  window := k.window.trans h.window
  format u := (k.format u).trans (h.format u)
  holds b key := (k.holds b key).trans (h.holds b key)
  resident b := (k.resident b).trans (h.resident b)

/-- A change of none of the parts that the modes look at. -/
theorem StreamsKept.of_rest {s t : State} (units : t.units = s.units) (profile : t.profile = s.profile)
    (pins : t.pins = s.pins) (window : t.wcu.window = s.wcu.window) (slots : t.slots = s.slots)
    (formats : t.formats = s.formats) (buffers : t.buffers = s.buffers) : StreamsKept s t := by
  refine ⟨units, profile, pins, window, fun u => ?_, fun b k => ?_, fun b => ?_⟩
  · exact format_congr (by rw [unit_of_units units]) slots formats
  · rw [State.buffer, buffers, State.buffer]
  · rw [State.buffer, buffers, State.buffer]

theorem mapCard_streamsKept (s : State) (g : CardPort → CardPort) : StreamsKept s (s.mapCard g) :=
  .of_rest rfl rfl rfl rfl rfl rfl rfl

theorem mapLink_streamsKept (s : State) (g : Link → Link) : StreamsKept s (s.mapLink g) :=
  .of_rest rfl rfl rfl rfl rfl rfl rfl

theorem report_streamsKept (s : State) (r : Report) : StreamsKept s (s.report r) :=
  .of_rest (by simp) (by simp) (by simp) (by simp) (by simp) (by simp) (by simp)

theorem endCommand_streamsKept (s : State) (r : ResultCode) (p : List Byte) : StreamsKept s (s.endCommand r p) :=
  .of_rest (by simp) (by simp) (by simp) (by simp) (by simp) (by simp) (by simp)

theorem ite_streams {p : Prop} [Decidable p] {a b : State} (h : StreamsConsistent a) (k : StreamsConsistent b) :
    StreamsConsistent (if p then a else b) := by
  split
  · exact h
  · exact k

theorem endCommand_streams {s : State} (h : StreamsConsistent s) (r : ResultCode) (p : List Byte) :
    StreamsConsistent (s.endCommand r p) := (endCommand_streamsKept s r p).streams h

/-! ### Changes that a reaction follows -/

/-- The rotation and the read stream of a unit are as they were. -/
def StreamSame (x y : UnitState) : Prop :=
  y =
    { x with
      cylinder := y.cylinder, motor := y.motor, spinUpDue := y.spinUpDue, latch := y.latch, lastDir := y.lastDir
      settleDue := y.settleDue, media := y.media, mounted := y.mounted }

/-- The rotations and the read streams of both units are as they were. -/
structure StreamsSame (s t : State) : Prop where
  unit : ∀ u, StreamSame (s.unit u) (t.unit u)

theorem StreamsSame.refl (s : State) : StreamsSame s s := ⟨fun _ => rfl⟩

theorem StreamsSame.trans {s t x : State} (h : StreamsSame s t) (k : StreamsSame t x) : StreamsSame s x := by
  refine ⟨fun u => ?_⟩
  have hu := h.unit u
  have ku := k.unit u
  unfold StreamSame at *
  rw [ku, hu]

theorem StreamsSame.of_units {s t : State} (h : t.units = s.units) : StreamsSame s t := ⟨fun u => by
  rw [unit_of_units h]
  rfl⟩

theorem EjectFrame.streamsSame {s t : State} (h : EjectFrame s t) : StreamsSame s t := ⟨fun u => by
  rw [h.units u]
  rfl⟩

theorem CacheFrame.streamsSame {s t : State} (h : CacheFrame s t) : StreamsSame s t := .of_units h.units

theorem setUnit_streamsSame {s : State} {u : DriveId} {x : UnitState} (h : StreamSame (s.unit u) x) :
    StreamsSame s (s.setUnit u x) := by
  refine ⟨fun v => ?_⟩
  rw [unit_setUnit]
  split
  · rename_i e; rw [e]; exact h
  · rfl

theorem ite_streamsSame {p : Prop} [Decidable p] {s a b : State} (h : StreamsSame s a) (k : StreamsSame s b) :
    StreamsSame s (if p then a else b) := by
  split
  · exact h
  · exact k

/-- R67: a unit that takes up the mode QUIET falls silent, unless it was QUIET. -/
theorem takeMode_quiet (old : State) {s : State} {u : DriveId} (h : s.modeOf u = .quiet) :
    State.takeMode old s u =
      let s1 := s.setUnit u { s.unit u with mode := .quiet }
      if (s.unit u).mode = .quiet then s1
      else (State.silence old s1 u).setUnit u { (State.silence old s1 u).unit u with hold := false } := by
  unfold State.takeMode
  rw [h]
  cases (s.unit u).mode <;> rfl

theorem takeMode_hushed (old s : State) {u : DriveId} (h : (s.unit u).Hushed) :
    ((State.takeMode old s u).unit u).Hushed := by
  intro quiet
  rw [takeMode_mode] at quiet
  rw [takeMode_quiet old quiet]
  simp only []
  split
  · rename_i before
    rw [unit_setUnit_self]
    exact h before
  · rw [unit_setUnit_self, State.silence, unit_setUnit_self]
    exact ⟨rfl, rfl, rfl, rfl⟩

theorem takeModes_hushed (old : State) {s : State} (h : ∀ u, (s.unit u).Hushed) (u : DriveId) :
    ((driveIds.foldl (State.takeMode old) s).unit u).Hushed := by
  show ((State.takeMode old (State.takeMode old s 0) 1).unit u).Hushed
  match u with
  | 0 => rw [takeMode_other _ _ (by decide)]; exact takeMode_hushed old s (h 0)
  | 1 => exact takeMode_hushed old _ (by rw [takeMode_other _ _ (by decide)]; exact h 1)

/-- Up to the modes a reaction leaves the read streams as they are. -/
theorem gateFollowed_hushed (old : State) {s : State} {u : DriveId} (h : (s.unit u).Hushed) :
    ((gateFollowed old s).unit u).Hushed := by
  rw [gateFollowed_unit, rotationsFollowed_unit]
  unfold UnitState.turned
  split
  all_goals
    rw [windowFollowed_unit, (motorsFollowed_frame old s).units u]
    exact h

/-- A reaction to a change that leaves the rotations and the read streams: it takes up the modes, has a stream that
falls QUIET silent, and holds a rotation that stops at position 0 (R31, R66, R67). -/
theorem event_streams {s : State} {g : State → State} (h : StreamsConsistent s) (k : StreamsSame s (g s)) :
    StreamsConsistent (s.event g) := by
  obtain ⟨-, hushed, still⟩ := h
  refine ⟨react_modes s (g s), takeModes_hushed s fun u => gateFollowed_hushed s ?_, fun u r => ?_⟩
  · rw [k.unit u]
    exact hushed u
  · have position : ((g s).unit u).bitCount = (s.unit u).bitCount := by rw [k.unit u]
    show ((react s (g s)).unit u).bitCount = 0
    rw [(react_rotation s (g s) u).1, show (react s (g s)).rotating u = false from r, position]
    split
    · rename_i before
      exact still u before
    · rfl

/-! ### Changes of media, slots and the flush service -/

theorem setMedia_streamsSame (s : State) (u : DriveId) (m : Media) (n : Option SlotId) :
    StreamsSame s (s.setMedia u m n) := setUnit_streamsSame rfl

theorem setLatch_streamsSame (s : State) (u : DriveId) : StreamsSame s (s.setLatch u) := setUnit_streamsSame rfl

theorem insertMedia_streamsSame (s : State) (u : DriveId) (n : SlotId) : StreamsSame s (s.insertMedia u n) :=
  (setMedia_streamsSame ..).trans (.of_units (report_frame _ _).units)

theorem beginEject_streamsSame (s : State) (u : DriveId) (mode : EjectMode) : StreamsSame s (s.beginEject u mode) := by
  unfold State.beginEject
  have begun := ((setMedia_streamsSame s u .ejecting (s.unit u).mounted).trans (setLatch_streamsSame _ u)).trans
    ((setEject_ejectFrame _ (some ⟨u, mode, .hold⟩)).trans (stopUnit_frame _ u).ejectFrame).streamsSame
  exact ite_streamsSame (begun.trans (.of_units rfl)) (begun.trans (leaveHold_ejectFrame _).streamsSame)

theorem pullMedia_streamsSame (s : State) (u : DriveId) : StreamsSame s (s.pullMedia u) :=
  ite_streamsSame (.refl s) ((setMedia_streamsSame ..).trans (setLatch_streamsSame ..))

theorem pullAll_streamsSame (s : State) : StreamsSame s s.pullAll := by
  have reported : ∀ (x : State) (u : DriveId) (n : Nat), StreamsSame x (x.reportDiscarded u n) := fun x u n =>
    ite_streamsSame (.of_units (report_frame ..).units) (.refl x)
  let a := ((s.discardPending (fun _ => true) 3).reportDiscarded 0 (s.dirtyCount 0)).reportDiscarded 1 (s.dirtyCount 1)
  let b : State := { ({ a with wcu := Wcu.reset } : State).dropCache with slots := Vector.replicate 8 .vacant }
  have discarded : StreamsSame s a :=
    ((discardPending_frame ..).streamsSame.trans (reported ..)).trans (reported ..)
  have emptied : StreamsSame a b := .of_units rfl
  have pulled : StreamsSame b ((b.pullMedia 0).pullMedia 1) :=
    (pullMedia_streamsSame ..).trans (pullMedia_streamsSame ..)
  show StreamsSame s (((b.pullMedia 0).pullMedia 1).setEject none)
  exact (discarded.trans emptied).trans (pulled.trans (setEject_ejectFrame _ none).streamsSame)

theorem dropCard_streamsSame (s : State) : StreamsSame s s.dropCard := by
  unfold State.dropCard
  simp only []
  generalize e : (s.mapCard fun c => { CardPort.reset with clsw := c.clsw, power := c.power }) = a
  have removed : StreamsSame s a := .of_units (by rw [← e]; rfl)
  exact (removed.trans (pullAll_streamsSame a)).trans
    ((endCommand_ejectFrame ..).trans (report_ejectFrame ..)).streamsSame

theorem closeWindow_streamsSame (s : State) : StreamsSame s s.closeWindow := ⟨fun u => by
  rw [closeWindow_unit]
  rfl⟩

/-! ### Resets -/

theorem cleared_streams (s : State) (cdet clsw : Bool) (replies : List Reply) :
    StreamsConsistent (s.cleared cdet clsw replies) := by
  have unit : ∀ u, (s.cleared cdet clsw replies).unit u = UnitState.reset := reset_unit
  refine ⟨fun u => ?_, fun u => ?_, fun u _ => ?_⟩
  · have media : ((s.cleared cdet clsw replies).unit u).media ≠ .ready := by rw [unit]; exact nofun
    rw [State.modeOf, if_pos media, unit]
    rfl
  · rw [unit]
    exact fun _ => ⟨rfl, rfl, rfl, rfl⟩
  · rw [unit]
    rfl

theorem restart_streams (s : State) (pins : BitVec 9) (cdet clsw : Bool) (replies : List Reply) :
    StreamsConsistent (s.restart pins cdet clsw replies) := event_streams (cleared_streams ..) (.of_units rfl)

theorem resetNow_streams {s : State} (h : StreamsConsistent s) : StreamsConsistent s.resetNow := by
  unfold State.resetNow
  split
  · exact h
  · exact restart_streams ..

end Sys2Proof.Machine
end

section
/-! PROOFS. O48: the commands and the rows, and the step. -/

namespace Sys2Proof.Machine

open Sys2Proof.Safety

/-! ### Formats, slots and blocks -/

theorem format_eq (s : State) (u : DriveId) :
    s.format u = ((s.image u).map SlotData.format).bind fun i => look s.formats i := by
  unfold State.format
  cases s.image u <;> rfl

/-- A slot takes another description: the formats of the units stay where a slot mounted keeps its own. -/
theorem setSlot_streamsKept {s : State} {n : SlotId} {x : Slot}
    (h : ∀ u, (s.unit u).mounted = some n → x.data.map SlotData.format = (s.slot n).data.map SlotData.format) :
    StreamsKept s (s.setSlot n x) := by
  refine ⟨rfl, rfl, rfl, rfl, fun u => ?_, fun _ _ => rfl, fun _ => rfl⟩
  have image : ((s.setSlot n x).image u).map SlotData.format = (s.image u).map SlotData.format := by
    unfold State.image
    rw [setSlot_unit]
    split
    · rfl
    · rename_i m mounted
      simp only [slot_setSlot]
      split
      · rename_i e
        rw [e] at mounted ⊢
        exact h u mounted
      · rfl
  rw [format_eq, image, format_eq, setSlot_formats]

/-- R10: a slot that is not MOUNTED is mounted on no unit. -/
theorem not_mounted {s : State} (m : MediaConsistent s) {n : SlotId} (h : ¬ (s.slot n).isMounted = true) (u : DriveId) :
    (s.unit u).mounted ≠ some n := by
  intro mounted
  obtain ⟨d, e⟩ := ((mediaConsistent_iff s).mp m).1.mounted u n mounted
  exact h (by rw [e]; rfl)

/-- R5: a descriptor that no slot references is the format of no unit. -/
theorem defineEntry_streamsKept {s : State} {i : FormatId} (h : s.referencing i = none) (f : Format) :
    StreamsKept s { s with formats := put s.formats i (some f) } := by
  refine ⟨rfl, rfl, rfl, rfl, fun u => ?_, fun _ _ => rfl, fun _ => rfl⟩
  have free : ∀ n d, (s.slot n).data = some d → i ≠ d.format := by
    intro n d data e
    have all : ∀ n : SlotId, n ∈ slotIds := by decide
    have none_ := List.find?_eq_none.mp h n (all n)
    simp [Slot.references, data, e] at none_
  show (match s.image u with | none => none | some d => look (put s.formats i (some f)) d.format) = s.format u
  unfold State.format
  cases e : s.image u with
  | none => rfl
  | some d =>
    refine look_put_ne _ _ _ _ ?_
    unfold State.image at e
    split at e
    · cases e
    · exact free _ d e

/-- A change of a buffer that leaves the keys it holds and its residence. -/
theorem mapBuffer_streamsKept {s : State} {b : BufferId} {g : Buffer → Buffer}
    (holds : ∀ x k, (g x).holds k = x.holds k)
    (resident : ∀ x, (g x).state.resident = x.state.resident) : StreamsKept s (s.mapBuffer b g) := by
  refine ⟨rfl, rfl, rfl, rfl, fun _ => rfl, fun c k => ?_, fun c => ?_⟩
  · rw [buffer_mapBuffer]
    split
    · rename_i e; rw [e, holds]
    · rfl
  · rw [buffer_mapBuffer]
    split
    · rename_i e; rw [e, resident]
    · rfl

theorem takeBlock_streamsKept (s : State) (b : BufferId) : StreamsKept s (s.takeBlock b) := by
  unfold State.takeBlock
  split
  · exact .refl s
  · split
    · exact .refl s
    · refine StreamsKept.trans ?_ (mapBuffer_streamsKept (fun _ _ => rfl) fun _ => rfl)
      exact .of_rest rfl rfl rfl rfl rfl rfl rfl

/-! ### The link -/

/-- Nothing but the Management Link has changed. -/
structure LinkOnly (s t : State) : Prop where
  rest : t = { s with link := t.link }

theorem LinkOnly.refl (s : State) : LinkOnly s s := ⟨rfl⟩

theorem LinkOnly.trans {s t x : State} (h : LinkOnly s t) (k : LinkOnly t x) : LinkOnly s x :=
  ⟨by rw [k.rest, h.rest]⟩

theorem LinkOnly.streams {s t : State} (h : LinkOnly s t) (m : StreamsConsistent s) : StreamsConsistent t := by
  rw [h.rest]
  exact (mapLink_streamsKept s fun _ => t.link).streams m

theorem ite_linkOnly {p : Prop} [Decidable p] {s a b : State} (h : LinkOnly s a) (k : LinkOnly s b) :
    LinkOnly s (if p then a else b) := by
  split
  · exact h
  · exact k

theorem mapLink_linkOnly (s : State) (g : Link → Link) : LinkOnly s (s.mapLink g) := ⟨rfl⟩

theorem shift_linkOnly (s : State) (b : Byte) : LinkOnly s (s.shift b) := ⟨rfl⟩

theorem setFrame_linkOnly (s : State) (f : Frame) : LinkOnly s (s.setFrame f) := ⟨rfl⟩

theorem select_linkOnly (s : State) : LinkOnly s s.select := by
  unfold State.select
  split
  · exact .refl s
  · exact mapLink_linkOnly ..

theorem beginFrame_linkOnly (s : State) {g : State → State} (h : ∀ t, LinkOnly t (g t)) :
    LinkOnly s (s.beginFrame g) := by
  unfold State.beginFrame
  simp only []
  split
  · exact ((select_linkOnly s).trans (mapLink_linkOnly ..)).trans (h _)
  · exact select_linkOnly s

theorem judgeFrame_linkOnly (s : State) (inbound : List Byte) : LinkOnly s (s.judgeFrame inbound) :=
  ite_linkOnly ⟨rfl⟩ (ite_linkOnly ⟨rfl⟩ (ite_linkOnly ⟨rfl⟩ (ite_linkOnly ⟨rfl⟩ ⟨rfl⟩)))

theorem startReply_linkOnly (s : State) : LinkOnly s s.startReply := by
  unfold State.startReply
  split
  · exact setFrame_linkOnly ..
  · exact setFrame_linkOnly ..

theorem commandByte_linkOnly (s : State) (b : Byte) : LinkOnly s (s.commandByte b) := by
  unfold State.commandByte
  split
  · exact (shift_linkOnly ..).trans (judgeFrame_linkOnly ..)
  · exact shift_linkOnly ..

theorem replyByte_linkOnly (s : State) : LinkOnly s s.replyByte := by
  unfold State.replyByte
  split
  · exact (shift_linkOnly ..).trans (ite_linkOnly ⟨rfl⟩ ⟨rfl⟩)
  · exact shift_linkOnly ..

theorem reportsByte_linkOnly (s : State) (b : Byte) : LinkOnly s (s.reportsByte b) := by
  unfold State.reportsByte
  split
  · exact ⟨rfl⟩
  · split
    · exact (shift_linkOnly ..).trans (ite_linkOnly ⟨rfl⟩ ⟨rfl⟩)
    · split
      · exact shift_linkOnly ..
      · exact (shift_linkOnly ..).trans (ite_linkOnly ⟨rfl⟩ (ite_linkOnly ⟨rfl⟩ ⟨rfl⟩))
  · exact shift_linkOnly ..

theorem exchange_linkOnly (s : State) (b : Byte) : LinkOnly s (s.exchange b) := by
  unfold State.exchange
  split
  · exact .refl s
  · exact .refl s
  · exact shift_linkOnly ..
  · exact commandByte_linkOnly ..
  · exact replyByte_linkOnly s
  · exact reportsByte_linkOnly ..

theorem exchanges_linkOnly (s : State) (bytes : List Byte) : LinkOnly s (s.exchanges bytes) := by
  induction bytes generalizing s with
  | nil => exact .refl s
  | cons b bytes ih => exact (exchange_linkOnly s b).trans (ih _)

theorem statusFrame_linkOnly (s : State) (n : Nat) : LinkOnly s (s.statusFrame n) := by
  unfold State.statusFrame
  split
  · exact exchanges_linkOnly ..
  · split
    · exact select_linkOnly s
    · exact (beginFrame_linkOnly s .refl).trans (exchanges_linkOnly ..)

/-! ### The commands -/

theorem applyProfile_streamsSame (s : State) (p : Profile) : StreamsSame s (s.applyProfile p) := by
  have clamped : ∀ (x : State) (u : DriveId), StreamsSame x (x.clampCylinder u) := fun x u => setUnit_streamsSame rfl
  exact (StreamsSame.of_units (s := s) (t := { s with profile := p }) rfl).trans ((clamped _ 0).trans (clamped _ 1))

section Commands

variable {s : State} (h : StreamsConsistent s) (ps : List Byte)
include h

theorem ofLength_streams {n : Nat} {g : State → State} (k : StreamsConsistent (g s)) :
    StreamsConsistent (s.ofLength ps n g) := ite_streams k (endCommand_streams h _ _)

theorem queryUnit_streams : StreamsConsistent (s.queryUnit ps) := by
  unfold State.queryUnit
  split
  · exact endCommand_streams h _ _
  · exact endCommand_streams h _ _

theorem defineFormat_streams : StreamsConsistent (s.defineFormat ps) := by
  unfold State.defineFormat
  split
  · exact endCommand_streams h _ _
  · split
    · exact endCommand_streams h _ _
    · rename_i free
      split
      · exact endCommand_streams h _ _
      · exact endCommand_streams ((defineEntry_streamsKept free _).streams h) _ _

theorem loadSlot_streams (m : MediaConsistent s) : StreamsConsistent (s.loadSlot ps) := by
  unfold State.loadSlot
  split
  · exact endCommand_streams h _ _
  · refine ite_streams (endCommand_streams h _ _) ?_
    split
    · exact endCommand_streams h _ _
    · rename_i free
      unfold State.describeSlot
      split
      · exact endCommand_streams h _ _
      · split
        · exact endCommand_streams h _ _
        · split
          · exact endCommand_streams h _ _
          · exact endCommand_streams
              ((setSlot_streamsKept fun u mounted => absurd mounted (not_mounted m free u)).streams h) _ _

theorem unloadSlot_streams (m : MediaConsistent s) : StreamsConsistent (s.unloadSlot ps) := by
  unfold State.unloadSlot
  split
  · exact endCommand_streams h _ _
  · split
    · exact endCommand_streams h _ _
    · rename_i free
      exact endCommand_streams
        ((setSlot_streamsKept fun u mounted => absurd mounted (not_mounted m free u)).streams h) _ _

theorem setProtect_streams : StreamsConsistent (s.setProtect ps) := by
  unfold State.setProtect
  split
  · exact endCommand_streams h _ _
  · rename_i n _
    split
    · exact endCommand_streams h _ _
    · rename_i prot _
      have kept : StreamsKept s (s.setSlot n ((s.slot n).withProtect prot)) :=
        setSlot_streamsKept fun _ _ => by cases s.slot n <;> rfl
      exact ite_streams (endCommand_streams h _ _) (endCommand_streams (kept.streams h) _ _)

theorem mount_streams : StreamsConsistent (s.mount ps) := by
  unfold State.mount
  split
  · exact endCommand_streams h _ _
  · split
    · exact endCommand_streams h _ _
    · refine ite_streams (endCommand_streams h _ _) (ite_streams (endCommand_streams h _ _) ?_)
      split
      · unfold State.present
        split
        · exact endCommand_streams h _ _
        · exact ite_streams (endCommand_streams h _ _)
            (endCommand_streams (event_streams h (insertMedia_streamsSame ..)) _ _)
      · exact endCommand_streams h _ _

theorem ejectCommand_streams : StreamsConsistent (s.ejectCommand ps) := by
  unfold State.ejectCommand
  split
  · exact endCommand_streams h _ _
  · split
    · exact endCommand_streams h _ _
    · exact ite_streams (endCommand_streams h _ _) (event_streams h (beginEject_streamsSame ..))

theorem flushCommand_streams : StreamsConsistent (s.flushCommand ps) := by
  unfold State.flushCommand
  split
  · exact endCommand_streams h _ _
  · exact event_streams h (requestService_ejectFrame ..).streamsSame

theorem post_streams (kind : TransKind) (block : Nat) (q : Requester) (cls : Nat) (range : Option (Nat × Nat)) :
    StreamsConsistent (s.post kind block q cls range) := (post_turnFrame ..).streams h

theorem cardRead_streams : StreamsConsistent (s.cardRead ps) :=
  ite_streams (endCommand_streams h _ _) (ite_streams (endCommand_streams h _ _) (post_streams h ..))

theorem cardWrite_streams : StreamsConsistent (s.cardWrite ps) := by
  refine ite_streams (endCommand_streams h _ _) (ite_streams (endCommand_streams h _ _) ?_)
  split
  · exact endCommand_streams h _ _
  · exact ite_streams (endCommand_streams h _ _) (post_streams h ..)

theorem profileCommand_streams : StreamsConsistent (s.profileCommand ps) := by
  unfold State.profileCommand
  split
  · exact endCommand_streams h _ _
  · split
    · exact endCommand_streams h _ _
    · exact endCommand_streams (event_streams h (applyProfile_streamsSame _ _)) _ _

end Commands

theorem start_streamsKept (s : State) (q : QueuedCommand) : StreamsKept s (s.start q) :=
  .of_rest rfl rfl rfl rfl rfl rfl rfl

/-- R165, R166: a command starts and is carried out. -/
theorem carryOut_streams {s : State} (m : MediaConsistent s) (h : StreamsConsistent s) (idle : s.executing = none)
    (q : QueuedCommand) : StreamsConsistent (s.carryOut q) := by
  have media : MediaConsistent (s.start q) := setExecuting_consistent m (unwaited_of_idle m idle) _
  have started : StreamsConsistent (s.start q) := (start_streamsKept s q).streams h
  unfold State.carryOut
  simp only []
  split
  · exact ofLength_streams started _ (endCommand_streams started _ _)
  · exact ofLength_streams started _ (cardRead_streams started _)
  · exact ofLength_streams started _ (cardWrite_streams started _)
  · exact ofLength_streams started _ (defineFormat_streams started _)
  · exact ofLength_streams started _ (ejectCommand_streams started _)
  · exact ofLength_streams started _ (flushCommand_streams started _)
  · exact ofLength_streams started _ (endCommand_streams started _ _)
  · exact ofLength_streams started _ (loadSlot_streams started _ media)
  · exact ofLength_streams started _ (mount_streams started _)
  · exact ofLength_streams started _ (endCommand_streams started _ _)
  · exact ofLength_streams started _ (queryUnit_streams started _)
  · exact ofLength_streams started _ (ite_streams (resetNow_streams started) started)
  · exact ofLength_streams started _ (profileCommand_streams started _)
  · exact ofLength_streams started _ (setProtect_streams started _)
  · exact ofLength_streams started _ (unloadSlot_streams started _ media)
  · exact endCommand_streams started _ _

theorem runQueue_streams (fuel : Nat) {s : State} (m : MediaConsistent s) (h : StreamsConsistent s) :
    StreamsConsistent (State.runQueue fuel s) := by
  induction fuel generalizing s with
  | zero => exact h
  | succ fuel ih =>
    unfold State.runQueue
    split
    · exact h
    · rename_i q rest _
      split
      · rename_i due
        have idle := executing_of_startDue due
        have dequeued := (link_kept s { s.link with commands := rest }).consistent m
        have streams := (mapLink_streamsKept s fun l => { l with commands := rest }).streams h
        exact ih (carryOut_consistent dequeued (by exact idle) q) (carryOut_streams dequeued streams (by exact idle) q)
      · exact h

theorem takeCommands_streams {s : State} (m : MediaConsistent s) (h : StreamsConsistent s) :
    StreamsConsistent s.takeCommands := runQueue_streams _ m h

/-! ### The drive port -/

theorem setPins_streams {s : State} (h : StreamsConsistent s) (pins : BitVec 9) (t : Option Nat) :
    StreamsConsistent (s.setPins pins t) := by
  have stepped : ∀ x : State, StreamsSame x x.stepEdge := by
    have one : ∀ (x : State) (u : DriveId) (inward : Bool), StreamsSame x (x.takeStep u inward) := fun _ _ _ =>
      setUnit_streamsSame rfl
    exact fun x => ite_streamsSame (.refl x)
      ((ite_streamsSame (one x 0 _) (.refl x)).trans (ite_streamsSame (one _ 1 _) (.refl _)))
  have sampled : StreamsConsistent (s.event fun x => { x with pins := pins }) := event_streams h (.of_units rfl)
  have edge := ite_streams (p := s.level .step = false ∧ (s.event fun x => { x with pins := pins }).level .step = true)
    (event_streams sampled (stepped _)) sampled
  exact ite_streams (event_streams edge (.of_units (transition_units _ t))) edge

theorem setInput_streams {s : State} (h : StreamsConsistent s) (i : Input) (level : Bool) :
    StreamsConsistent (s.setInput i level) := by
  unfold State.setInput
  split
  · exact h
  · exact setPins_streams h ..

theorem released_streams {s : State} (h : StreamsConsistent s) (i : Input) : StreamsConsistent (s.released i) :=
  ite_streams (setInput_streams h ..) h

theorem stepPulse_streams {s : State} (h : StreamsConsistent s) (inward : Bool) :
    StreamsConsistent (s.stepPulse inward) := by
  have free := released_streams h .step
  unfold State.stepPulse
  simp only []
  split
  · exact setPins_streams free ..
  · exact setInput_streams (setPins_streams free ..) ..

theorem now_streams {s : State} (h : StreamsConsistent s) (n : Nat) : StreamsConsistent { s with now := n } :=
  (StreamsKept.of_rest rfl rfl rfl rfl rfl rfl rfl).streams h

theorem runTo_streams {s : State} (h : StreamsConsistent s) (n : Nat) : StreamsConsistent (s.runTo n) :=
  (runTo_turnFrame s n).streams (now_streams h _)

theorem writePulse_streams {s : State} (h : StreamsConsistent s) (t : Nat) : StreamsConsistent (s.writePulse t) := by
  have free := released_streams h .wdata
  unfold State.writePulse
  simp only []
  split
  · exact free
  · exact setInput_streams (setPins_streams (runTo_streams free _) ..) ..

theorem spinUp_streams {s : State} (h : StreamsConsistent s) (u : DriveId) : StreamsConsistent (s.spinUp u) := by
  unfold State.spinUp
  split
  · exact h
  · exact event_streams (runTo_streams h _) (setUnit_streamsSame rfl)

theorem settled_streams {s : State} (h : StreamsConsistent s) (u : DriveId) : StreamsConsistent (s.settled u) := by
  unfold State.settled
  split
  · exact h
  · exact event_streams (runTo_streams h _) (setUnit_streamsSame rfl)

/-- R20: a turning unit comes to a bit. -/
theorem beginBit_streams {s : State} (h : StreamsConsistent s) {u : DriveId} (r : s.rotating u = true) (n : Nat) :
    StreamsConsistent (s.beginBit u n) := by
  cases e : s.format u with
  | none => rw [State.beginBit, e]; exact h
  | some f => exact (beginBit_turnFrame r n e).streams (now_streams h _)

theorem closeRevolution_streams {s : State} (h : StreamsConsistent s) {u : DriveId} (r : s.rotating u = true) :
    StreamsConsistent (s.closeRevolution u) := by
  unfold State.closeRevolution
  split
  · exact h
  · exact beginBit_streams h r _

theorem leaveIndex_streams {s : State} (h : StreamsConsistent s) {u : DriveId} (r : s.rotating u = true) :
    StreamsConsistent (s.leaveIndex u) := by
  unfold State.leaveIndex
  split
  · exact h
  · exact beginBit_streams h r _

theorem resume_streams {s : State} (h : StreamsConsistent s) {u : DriveId} (r : s.rotating u = true) :
    StreamsConsistent (s.resume u) := by
  unfold State.resume
  split
  · exact h
  · exact beginBit_streams h r _

theorem holdOver_streams {s : State} (h : StreamsConsistent s) : StreamsConsistent s.holdOver := by
  unfold State.holdOver
  split
  · exact h
  · exact event_streams (runTo_streams h _) (closeWindow_streamsSame _)

theorem delayOver_streams {s : State} (h : StreamsConsistent s) (b : BufferId) : StreamsConsistent (s.delayOver b) := by
  unfold State.delayOver
  split
  · exact h
  · exact ite_streams (event_streams (runTo_streams h _) (beginAttempt_frame ..).streamsSame) h

/-! ### The Card Port -/

theorem cardFailed_streams {s : State} (h : StreamsConsistent s) (detail : Nat) :
    StreamsConsistent (s.cardFailed detail) := ((mapCard_streamsKept ..).trans (report_streamsKept ..)).streams h

theorem sendExchange_streams {s : State} (h : StreamsConsistent s) (e : StartupExchange) :
    StreamsConsistent (s.sendExchange e) := (mapCard_streamsKept ..).streams h

theorem detected_streams {s : State} (h : StreamsConsistent s) : StreamsConsistent s.detected := by
  unfold State.detected
  split
  · exact h
  · exact ite_streams (sendExchange_streams ((mapCard_streamsKept ..).streams (runTo_streams h _)) _) h

theorem startupAnswer_streams {s : State} (h : StreamsConsistent s) (good error ready blocks512 : Bool) (blocks : Nat) :
    StreamsConsistent (s.startupAnswer good error ready blocks512 blocks) := by
  have ready_ : StreamsConsistent (s.cardReady blocks) :=
    ((mapCard_streamsKept ..).trans (report_streamsKept ..)).streams h
  unfold State.startupAnswer
  split
  · exact h
  · refine ite_streams (sendExchange_streams h _) (ite_streams (cardFailed_streams h _) ?_)
    split
    · exact sendExchange_streams h _
    · exact ite_streams (sendExchange_streams h _) (sendExchange_streams h _)
    · exact ite_streams (sendExchange_streams h _) (cardFailed_streams h _)
    · exact ite_streams (cardFailed_streams h _) ready_

theorem exchangeLate_streams {s : State} (h : StreamsConsistent s) : StreamsConsistent s.exchangeLate := by
  unfold State.exchangeLate
  split
  · exact h
  · exact sendExchange_streams (runTo_streams h _) _

theorem startupLate_streams {s : State} (h : StreamsConsistent s) : StreamsConsistent s.startupLate := by
  unfold State.startupLate
  split
  · exact h
  · exact cardFailed_streams (runTo_streams h _) _

theorem arbitrate_streams {s : State} (h : StreamsConsistent s) : StreamsConsistent s.arbitrate := by
  have granted : ∀ r, StreamsConsistent (s.grant r) := by
    intro r
    unfold State.grant State.loadScratch
    have listed : StreamsKept s { (s.withdraw r.requester).mapCard fun c => { c with
        transaction := some ⟨r.kind, r.block, r.requester, firstStage r.kind false, s.now, 1, r.range, false⟩ } with
        choices := s.choices + 1 } := .of_rest rfl rfl rfl rfl rfl rfl rfl
    split
    · exact (listed.trans (takeBlock_streamsKept ..)).streams h
    · exact (listed.trans (mapCard_streamsKept ..)).streams h
    · exact listed.streams h
  refine ite_streams ?_ h
  split
  · exact h
  · exact granted _

/-- R144, R150: the transaction in flight ends with its final result. -/
theorem finish_streams {s : State} (h : StreamsConsistent s) (t : Transaction) (r : Result) :
    StreamsConsistent (s.finish t r) := by
  have delivered : ∀ (x : State) (block : List Byte), StreamsSame x (x.deliver t r block) := by
    intro x block
    refine ite_streamsSame (.refl x) ?_
    split
    · refine ite_streamsSame ?_ (endCommand_ejectFrame ..).streamsSame
      split
      · exact (endCommand_ejectFrame ..).streamsSame
      · exact (endCommand_ejectFrame ..).streamsSame
    · exact (deliverFill_frame ..).streamsSame
    · exact ite_streamsSame (ite_streamsSame (.refl x) (failBlock_frame ..).streamsSame)
        ((deliverFlush_frame ..).streamsSame.trans (settleService_ejectFrame ..).streamsSame)
  refine event_streams h (StreamsSame.trans ?_ (delivered _ _))
  exact .of_units rfl

theorem attemptFails_streams {s : State} (h : StreamsConsistent s) (t : Transaction) (r : Result) :
    StreamsConsistent (s.attemptFails t r) := ite_streams ((mapCard_streamsKept ..).streams h) (finish_streams h t r)

theorem toStage_streams {s : State} (h : StreamsConsistent s) (t : Transaction) (g : Stage) :
    StreamsConsistent (s.toStage t g) := (mapCard_streamsKept ..).streams h

theorem atStage_streams {s : State} (h : StreamsConsistent s) (stages : List Stage) {g : State → Transaction → State}
    (hg : ∀ t, StreamsConsistent (g s t)) : StreamsConsistent (s.atStage stages g) := by
  unfold State.atStage
  split
  · exact h
  · exact ite_streams (hg _) h

theorem readEnd_streams {s : State} (h : StreamsConsistent s) (data : List Byte) (check : Word16) (t : Transaction) :
    StreamsConsistent (State.readEnd data check s t) := by
  have held := (mapCard_streamsKept s fun c => { c with scratch := some data }).streams h
  refine ite_streams ?_ (attemptFails_streams held t _)
  split
  · unfold State.mergeTake
    simp only []
    split
    · exact toStage_streams ((takeBlock_streamsKept ..).streams held) _ _
    · exact toStage_streams held _ _
  · exact finish_streams held t _

theorem removeCard_streams {s : State} (h : StreamsConsistent s) : StreamsConsistent s.removeCard := by
  unfold State.removeCard
  refine ite_streams h ?_
  split
  · refine resetNow_streams ((mapCard_streamsKept s fun c => { c with cdet := false, transaction := none }).streams h)
  · exact event_streams h (dropCard_streamsSame s)

/-! ### The rows and the step -/

/-- A row answers a state that meets the streams invariant. -/
def AnswersStreams (o : Host.Outcome State Fault Refusal) : Prop := ∀ t, o = .next t → StreamsConsistent t

theorem answersStreams_next {t : State} (h : StreamsConsistent t) : AnswersStreams (.next t) :=
  fun _ e => Host.Outcome.next.inj e ▸ h

/-- A row after which the command queue is looked at (R159). -/
theorem answersStreams_row {old t : State} (m : MediaConsistent t) (h : StreamsConsistent t) :
    AnswersStreams (.next (State.followQueue old t)) :=
  answersStreams_next (ite_streams (takeCommands_streams m h) h)

/-- A command's own row, which does what the command does from the queue. -/
theorem answersStreams_direct {s : State} (m : MediaConsistent s) (h : StreamsConsistent s) (q : QueuedCommand) :
    AnswersStreams (.next (if s.taken.unoccupied then s.taken.carryOut q else s.taken)) := by
  have media := (taken_kept s).consistent m
  have taken : StreamsConsistent s.taken := (StreamsKept.of_rest rfl rfl rfl rfl rfl rfl rfl).streams h
  refine answersStreams_next ?_
  split
  · rename_i free
    exact carryOut_streams media taken ((unoccupied_iff _).mp free).1 q
  · exact taken

/-- Every row keeps the streams invariant. -/
theorem exec_streams {s : State} (media : MediaConsistent s) (streams : StreamsConsistent s) (i : Instr) :
    AnswersStreams (exec i s) := by
  have m := (taken_kept s).consistent media
  have h : StreamsConsistent s.taken := (StreamsKept.of_rest rfl rfl rfl rfl rfl rfl rfl).streams streams
  have direct := answersStreams_direct media streams
  cases i with
  | cardInfo tag ps => exact direct ⟨0x01, tag, ps⟩
  | cardRead tag ps => exact direct ⟨0x02, tag, ps⟩
  | cardWrite tag ps => exact direct ⟨0x03, tag, ps⟩
  | defineFormat tag ps => exact direct ⟨0x04, tag, ps⟩
  | eject tag ps => exact direct ⟨0x05, tag, ps⟩
  | flush tag ps => exact direct ⟨0x06, tag, ps⟩
  | identify tag ps => exact direct ⟨0x07, tag, ps⟩
  | loadSlot tag ps => exact direct ⟨0x08, tag, ps⟩
  | mount tag ps => exact direct ⟨0x09, tag, ps⟩
  | queryCache tag ps => exact direct ⟨0x0A, tag, ps⟩
  | queryUnit tag ps => exact direct ⟨0x0B, tag, ps⟩
  | reset tag ps => exact direct ⟨0x0C, tag, ps⟩
  | setProfile tag ps => exact direct ⟨0x0D, tag, ps⟩
  | setProtect tag ps => exact direct ⟨0x0E, tag, ps⟩
  | unloadSlot tag ps => exact direct ⟨0x0F, tag, ps⟩
  | badCommand code tag ps =>
    refine answersStreams_next (ite_streams h (ite_streams ?_ h))
    exact endCommand_streams ((start_streamsKept _ ⟨code, tag, ps⟩).streams h) _ _
  | status n => exact answersStreams_row ((statusFrame_kept ..).consistent m) ((statusFrame_linkOnly ..).streams h)
  | command bytes =>
    exact answersStreams_row
      (((beginFrame_kept _ _ fun t => setFrame_kept t _).trans (exchanges_kept ..)).consistent m)
      (((beginFrame_linkOnly _ fun t => setFrame_linkOnly t _).trans (exchanges_linkOnly ..)).streams h)
  | fetchReply n =>
    exact answersStreams_row (((beginFrame_kept _ _ startReply_kept).trans (exchanges_kept ..)).consistent m)
      (((beginFrame_linkOnly _ startReply_linkOnly).trans (exchanges_linkOnly ..)).streams h)
  | fetchReports bytes =>
    exact answersStreams_row
      (((beginFrame_kept _ _ fun t => setFrame_kept t _).trans (exchanges_kept ..)).consistent m)
      (((beginFrame_linkOnly _ fun t => setFrame_linkOnly t _).trans (exchanges_linkOnly ..)).streams h)
  | unknownFrameKind kind n =>
    exact answersStreams_next
      (ite_streams h (((beginFrame_linkOnly _ fun t => mapLink_linkOnly t _).trans (exchanges_linkOnly ..)).streams h))
  | mselNegated => exact answersStreams_next ((mapLink_linkOnly ..).streams h)
  | commandStart => exact answersStreams_next (takeCommands_streams m h)
  | resetTakesEffect => exact answersStreams_next (ite_streams (resetNow_streams h) h)
  | hardwareReset pins cdet clsw =>
    refine answersStreams_next ?_
    split
    · exact (StreamsKept.of_rest rfl rfl rfl rfl rfl rfl rfl).streams (cleared_streams s.taken false false [])
    · exact restart_streams ..
  | selectChange u level => exact answersStreams_row (setInput_consistent m ..) (setInput_streams h ..)
  | motorAssert u => exact answersStreams_row (setInput_consistent m ..) (setInput_streams h ..)
  | motorNegate u => exact answersStreams_row (setInput_consistent m ..) (setInput_streams h ..)
  | spinUpExpiry u => exact answersStreams_row (spinUp_consistent m u) (spinUp_streams h u)
  | step inward => exact answersStreams_row (stepPulse_consistent m inward) (stepPulse_streams h inward)
  | sideChange level => exact answersStreams_row (setInput_consistent m ..) (setInput_streams h ..)
  | wgateAssert => exact answersStreams_row (setInput_consistent m ..) (setInput_streams h ..)
  | wgateNegate => exact answersStreams_row (setInput_consistent m ..) (setInput_streams h ..)
  | writeTransition ticks => exact answersStreams_row (writePulse_consistent m ticks) (writePulse_streams h ticks)
  | indexArrival u =>
    refine answersStreams_next ?_
    split
    · exact closeRevolution_streams h ‹_›
    · exact h
  | indexRegionEnd u =>
    refine answersStreams_next ?_
    split
    · rename_i at_
      exact leaveIndex_streams h (Bool.and_eq_true_iff.mp at_).1
    · exact h
  | settleExpiry u => exact answersStreams_row (settled_consistent m u) (settled_streams h u)
  | resumeHoldEnd u =>
    refine answersStreams_next ?_
    split
    · rename_i at_
      exact resume_streams h (Bool.and_eq_true_iff.mp at_).1
    · exact h
  | ejectHoldExpiry => exact answersStreams_row (holdOver_consistent m) (holdOver_streams h)
  | writeBackDelayExpiry b => exact answersStreams_row (delayOver_consistent m b) (delayOver_streams h b)
  | demandFillResumed =>
    exact answersStreams_row (event_consistent ((resumeFills_kept _).consistent m))
      (event_streams h (resumeFills_frame _).streamsSame)
  | prefetchActedOn =>
    exact answersStreams_row (event_consistent ((actOnPredictions_kept _).consistent m))
      (event_streams h (actOnPredictions_frame _).streamsSame)
  | cardDetect => exact answersStreams_next (detected_streams h)
  | cardRemoval => exact answersStreams_row (removeCard_consistent m) (removeCard_streams h)
  | lockSwitchChange level => exact answersStreams_next ((mapCard_streamsKept ..).streams h)
  | startupExchangeAnswer good error ready blocks512 blocks => exact answersStreams_next (startupAnswer_streams h ..)
  | exchangeTimeout => exact answersStreams_next (exchangeLate_streams h)
  | startupTimeout => exact answersStreams_next (startupLate_streams h)
  | arbiterGrant => exact answersStreams_next (arbitrate_streams h)
  | readPhaseEnd data check =>
    exact answersStreams_row
      (ite_consistent (atStage_consistent m _ _ fun _ k => readEnd_consistent m data check k) m)
      (ite_streams (atStage_streams h _ fun t => readEnd_streams h data check t) h)
  | writeCommandAnswer accepted =>
    refine answersStreams_row (atStage_consistent m _ _ fun t k => ite_consistent ?_ (attemptFails_consistent m k _))
      (atStage_streams h _ fun t => ite_streams (toStage_streams h ..) (attemptFails_streams h ..))
    exact (toStage_kept k rfl _).consistent m
  | dataResponse r =>
    refine answersStreams_row (atStage_consistent m _ _ fun t k => ?_) (atStage_streams h _ fun t => ?_)
    · cases r with
      | accepted => exact (toStage_kept k rfl _).consistent m
      | checkFailed => exact attemptFails_consistent m k _
      | refused => exact attemptFails_consistent m k _
    · cases r with
      | accepted => exact toStage_streams h ..
      | checkFailed => exact attemptFails_streams h ..
      | refused => exact attemptFails_streams h ..
  | busyEnd =>
    exact answersStreams_row (atStage_consistent m _ _ fun t k => finish_consistent m k _)
      (atStage_streams h _ fun t => finish_streams h t _)
  | noResponse =>
    refine answersStreams_row (atStage_consistent m _ _ fun t k => ?_)
      (atStage_streams h _ fun t => attemptFails_streams (runTo_streams h _) ..)
    exact attemptFails_consistent ((runTo_kept ..).consistent m) ((runTo_transaction ..).trans k) _
  | busyTimeout =>
    refine answersStreams_row (atStage_consistent m _ _ fun t k => ?_)
      (atStage_streams h _ fun t => attemptFails_streams (runTo_streams h _) ..)
    exact attemptFails_consistent ((runTo_kept ..).consistent m) ((runTo_transaction ..).trans k) _
  | unitRelease =>
    exact answersStreams_row (ite_consistent (event_consistent (releaseNow_consistent m)) m)
      (ite_streams (event_streams h (releaseNow_ejectFrame _).streamsSame) h)
  | bitBoundary u =>
    refine answersStreams_next ?_
    split
    · exact beginBit_streams h ‹_› _
    · exact h
  | cdetChangeWhileAbsent level => exact answersStreams_next (ite_streams ((mapCard_streamsKept ..).streams h) h)
  | cardBlockBegins => exact answersStreams_next (atStage_streams h _ fun t => toStage_streams h ..)
  | lastByteSent => exact answersStreams_next (atStage_streams h _ fun t => toStage_streams h ..)

theorem idle_streams {s : State} (m : MediaConsistent s) (h : StreamsConsistent s) : StreamsConsistent s.idle := by
  unfold State.idle
  split
  · rename_i p found
    obtain ⟨i, e⟩ := ownSteps_exec s p (List.mem_of_find?_eq_some found)
    rw [e]
    have answers := exec_streams m h i
    unfold settleOutcome
    split
    · rename_i t ht
      exact answers t ht
    · exact h
    · exact h
  · exact now_streams h _

/-- Settles O48: a reaction takes up the modes anew and has a stream that falls QUIET silent, and what no reaction
follows leaves what the modes look at. -/
theorem streamsStayConsistent : Obligations.StreamsStayConsistent := by
  intro s t streams media answered
  unfold step at answered
  split at answered
  · exact answersStreams_next (idle_streams media streams) t answered
  · rename_i c rest _
    have waiting : StreamsKept s { s with pending := rest } := .of_rest rfl rfl rfl rfl rfl rfl rfl
    exact exec_streams ((pending_kept s rest).consistent media) (waiting.streams streams) c t answered

end Sys2Proof.Machine
end

section
/-! PROOFS. O54: the match of a mark position to a physical slot (R28, R93). -/

namespace Sys2Proof.Machine

open Sys2Proof.Safety

/-- A position is near enough to the data mark of a slot (R93). -/
def Format.near (f : Format) (tolerance p k : Nat) : Prop :=
  cyclicDistance f.revolution p (f.expected k) ≤ 8 * tolerance

/-- R4, R22, R23: the offset of the data mark in a sector block, and that it lies inside the block's overhead. -/
theorem dataMarkOffset_eq (f : Format) : f.dataMarkOffset = if f.enc = .mfm then 56 else 30 := by
  simp only [Format.dataMarkOffset, Format.dataSyncOffset, Format.idOffset, Format.sync, Format.mark, Format.idGap]
  cases f.enc <;> rfl

theorem dataMarkOffset_lt (f : Format) : f.dataMarkOffset < f.overhead := by
  simp only [dataMarkOffset_eq, Format.overhead]
  cases f.enc <;> decide

/-- R4: a sector block holds its overhead, at least 128 data bytes and its gap. -/
theorem overhead_add_le_blockLen {f : Format} (gap : 1 ≤ f.sectorGap) : f.overhead + 129 ≤ f.blockLen := by
  have size : 128 * 1 ≤ f.size := Nat.mul_le_mul_left 128 Nat.one_le_two_pow
  simp only [Format.blockLen]
  omega

/-- R28: the data marks of the slots of a track lie in one revolution, each a block after the one before. -/
theorem expected_bounds {f : Format} (fits : f.content ≤ f.trackBytes) {j k : Nat} (lt : j < k) (hk : k < f.sectors) :
    f.expected j + 8 * f.blockLen ≤ f.expected k ∧
      f.expected k + 8 * f.blockLen ≤ f.expected j + f.revolution := by
  have next : j * f.blockLen + f.blockLen ≤ k * f.blockLen := by
    rw [← Nat.succ_mul]; exact Nat.mul_le_mul_right _ lt
  have last : k * f.blockLen + f.blockLen ≤ f.sectors * f.blockLen := by
    rw [← Nat.succ_mul]; exact Nat.mul_le_mul_right _ hk
  simp only [Format.content, Format.trackBytes] at fits
  simp only [Format.expected]
  omega

theorem expected_lt {f : Format} (fits : f.content ≤ f.trackBytes) {k : Nat} (hk : k < f.sectors) :
    f.expected k < f.revolution := by
  have last : k * f.blockLen + f.blockLen ≤ f.sectors * f.blockLen := by
    rw [← Nat.succ_mul]; exact Nat.mul_le_mul_right _ hk
  have inside : f.dataMarkOffset < f.blockLen := by
    have := dataMarkOffset_lt f
    simp only [Format.blockLen]
    omega
  simp only [Format.content, Format.trackBytes] at fits
  simp only [Format.expected]
  omega

/-- R93: two slots of a track are never both near a position. -/
theorem near_unique {f : Format} (sound : FormatSound f) {tolerance p j k : Nat} (ht : tolerance ≤ 64)
    (hp : p < f.revolution) (hj : j < f.sectors) (hk : k < f.sectors) (near_j : f.near tolerance p j)
    (near_k : f.near tolerance p k) : j = k := by
  obtain ⟨-, -, -, -, -, -, -, -, -, -, -, -, -, gap, -, -, -, fits⟩ := sound
  have block := overhead_add_le_blockLen gap
  have low := expected_lt fits hj
  have high := expected_lt fits hk
  have overhead : 33 ≤ f.overhead := by unfold Format.overhead; split <;> omega
  unfold Format.near cyclicDistance at near_j near_k
  simp only [] at near_j near_k
  rcases Nat.lt_trichotomy j k with lt | rfl | lt
  · have := expected_bounds fits lt hk
    omega
  · rfl
  · have := expected_bounds fits lt hj
    omega

/-- R93: the match is the first slot of the track that the position is near. -/
theorem matchSlot_some {f : Format} (sound : FormatSound f) {tolerance p k : Nat} (ht : tolerance ≤ 64)
    (hp : p < f.revolution) : matchSlot f tolerance p = some k ↔ k < f.sectors ∧ f.near tolerance p k := by
  unfold matchSlot
  constructor
  · intro found
    exact ⟨List.mem_range.mp (List.mem_of_find?_eq_some found), by simpa [Format.near] using List.find?_some found⟩
  · rintro ⟨hk, near⟩
    cases e : (List.range f.sectors).find? fun j => cyclicDistance f.revolution p (f.expected j) ≤ 8 * tolerance with
    | none =>
      have far := List.find?_eq_none.mp e k (List.mem_range.mpr hk)
      exact absurd (by simpa [Format.near] using near) far
    | some j =>
      have hj := List.mem_range.mp (List.mem_of_find?_eq_some e)
      have near_j : f.near tolerance p j := by simpa [Format.near] using List.find?_some e
      rw [near_unique sound ht hp hj hk near_j near]

/-- Settles O54: the data marks of the slots lie at least a block apart, both ways round, and a block is longer than two
tolerances. -/
theorem slotMatchUnique : Obligations.SlotMatchUnique := by
  intro f tolerance p k sound ht hp
  refine ⟨matchSlot_some sound ht hp, fun j hj hk => near_unique sound ht hp hj hk, ?_⟩
  rw [Format.expected, dataMarkOffset_eq]

end Sys2Proof.Machine
end

section
/-! PROOFS. How a pin's new level is taken (R108), and O32: SIDE changes (R33, R82, R115). -/

namespace Sys2Proof.Machine

open Sys2Proof.Safety

/-! ### Rows of the drive port -/

/-- R159: an event that leaves the management side leaves the command queue alone. -/
theorem followQueue_same {s t : State} (h : ManagementSame s t) : State.followQueue s t = t := by
  obtain ⟨⟨-, -, -, -, -, -, commands, -⟩, executing, replies⟩ := h
  have due : t.startDue = s.startDue := by rw [State.startDue, executing, commands, replies, State.startDue]
  cases e : s.startDue with
  | true => exact followQueue_late e t
  | false => exact followQueue_idle s (due.trans e)

theorem managementSame_trans {s t x : State} (h : ManagementSame s t) (k : ManagementSame t x) :
    ManagementSame s x := by
  obtain ⟨⟨pending, profile, formats, slots, eject, media, commands, fault, mdo, card, reports⟩, executing,
    replies⟩ := h
  obtain ⟨⟨pending', profile', formats', slots', eject', media', commands', fault', mdo', card', reports'⟩, executing',
    replies'⟩ := k
  exact ⟨⟨pending'.trans pending, profile'.trans profile, formats'.trans formats, slots'.trans slots,
    eject'.trans eject, fun u => ⟨(media' u).1.trans (media u).1, (media' u).2.trans (media u).2⟩,
    commands'.trans commands, fault'.trans fault, mdo'.trans mdo, by rw [card', card], reports.trans reports'⟩,
    executing'.trans executing, replies'.trans replies⟩

theorem managementSame_media {s t : State} (h : ManagementSame s t) (u : DriveId) :
    (t.unit u).media = (s.unit u).media ∧ (t.unit u).mounted = (s.unit u).mounted := by
  obtain ⟨⟨-, -, -, -, -, media, -⟩, -⟩ := h
  exact media u

theorem managementSame_profile {s t : State} (h : ManagementSame s t) : t.profile = s.profile := by
  obtain ⟨⟨-, profile, -⟩, -⟩ := h
  exact profile

theorem managementSame_noHold {s t : State} (h : ManagementSame s t) (n : NoHold s) : NoHold t := by
  obtain ⟨⟨-, -, -, -, eject, -⟩, -⟩ := h
  exact noHold_congr n eject

theorem EventFrame.management {s t : State} (h : EventFrame s t) : ManagementSame s t :=
  ⟨⟨h.pending, h.profile, h.formats, h.slots, h.eject, fun u => by rw [h.units u]; exact ⟨rfl, rfl⟩,
    by rw [h.link.rest], by rw [h.link.rest], by rw [h.link.rest], h.card, h.link.reports⟩, h.executing,
    by rw [h.link.rest]⟩

theorem headSame_trans {s t x : State} {u : DriveId} (h : HeadSame s t u) (k : HeadSame t x u) : HeadSame s x u := by
  obtain ⟨a, b, c, d⟩ := h
  obtain ⟨a', b', c', d'⟩ := k
  exact ⟨a'.trans a, b'.trans b, c'.trans c, d'.trans d⟩

theorem motorSame_trans {s t x : State} {u : DriveId} (h : MotorSame s t u) (k : MotorSame t x u) : MotorSame s x u :=
  ⟨k.1.trans h.1, k.2.trans h.2⟩

/-- R116: a reaction without a change of a unit's motor signal leaves its motor, an eject in progress or not. -/
theorem react_motorSame {old s : State} {u : DriveId} (h : old.motorOn u = s.motorOn u) :
    MotorSame s (react old s) u := by
  obtain ⟨-, motor, spinUp⟩ := react_head old s u
  rw [MotorSame, motor, spinUp, motorsFollowed_same old s u h]
  exact ⟨rfl, rfl⟩

/-! ### Pins (R108) -/

/-- R108: new levels are found on the pins, and the blocks follow them. -/
def State.sample (s : State) (pins : BitVec 9) : State := s.event fun x => { x with pins := pins }

theorem sample_pins (s : State) (pins : BitVec 9) : (s.sample pins).pins = pins :=
    (react_wide s { s with pins := pins }).pins

theorem sample_now (s : State) (pins : BitVec 9) : (s.sample pins).now = s.now :=
    (react_wide s { s with pins := pins }).now

theorem sample_profile (s : State) (pins : BitVec 9) : (s.sample pins).profile = s.profile :=
  (react_wide s { s with pins := pins }).profile

theorem sample_level (s : State) (pins : BitVec 9) (i : Input) :
    (s.sample pins).level i = ({ s with pins := pins } : State).level i :=
  level_congr (s := { s with pins := pins }) (sample_profile s pins) (sample_pins s pins) i

theorem sample_head (s : State) (pins : BitVec 9) (u : DriveId) : HeadSame s (s.sample pins) u :=
  (react_head s { s with pins := pins } u).1

theorem sample_modes (s : State) (pins : BitVec 9) : ModesTaken (s.sample pins) := react_modes _ _

theorem sample_management {s : State} (h : NoHold s) (pins : BitVec 9) : ManagementSame s (s.sample pins) :=
  (react_management s { s with pins := pins } h).1

theorem sample_motor {s : State} {pins : BitVec 9} {u : DriveId}
    (h : s.motorOn u = ({ s with pins := pins } : State).motorOn u) : MotorSame s (s.sample pins) u :=
  react_motorSame (s := { s with pins := pins }) h

/-- R108: an input follows its pin. -/
theorem level_pinsWith_own {s : State} {i : Input} {p : InPin} (h : s.pinOf i = some p) (pins : BitVec 9)
    (level : Bool) : ({ s with pins := pinsWith pins p level } : State).level i = level := by
  rw [level_pin (s := { s with pins := pinsWith pins p level }) h]
  show (pinsWith pins p level).getLsbD p.val = level
  rw [pinsWith_getLsbD, if_pos rfl]

/-- R108: a pin that carries one input moves no other. -/
theorem level_pinsWith_other {s : State} {i j : Input} {p : InPin} (h : OnOwnPin s i p) (ne : j ≠ i) (pins : BitVec 9)
    (level : Bool) :
    ({ s with pins := pinsWith pins p level } : State).level j = ({ s with pins := pins } : State).level j := by
  unfold State.level
  cases e : s.pinOf j with
  | none =>
    rw [show ({ s with pins := pinsWith pins p level } : State).pinOf j = none from e,
      show ({ s with pins := pins } : State).pinOf j = none from e]
  | some q =>
    have other : q ≠ p := fun k => ne (h.2 j (e.trans (congrArg some k)))
    rw [show ({ s with pins := pinsWith pins p level } : State).pinOf j = some q from e,
      show ({ s with pins := pins } : State).pinOf j = some q from e]
    show (pinsWith pins p level).getLsbD q.val = pins.getLsbD q.val
    rw [pinsWith_getLsbD, if_neg other]

theorem motorSource_ne {s : State} {i : Input} (h : ∀ u, i ≠ selectInput u ∧ i ≠ motorInput u) (u : DriveId) :
    s.motorSource u ≠ i := by
  unfold State.motorSource
  split
  · exact fun e => (h u).1 e.symm
  · exact fun e => (h u).2 e.symm

theorem motorOn_pinsWith_other {s : State} {i : Input} {p : InPin} (h : OnOwnPin s i p) {u : DriveId}
    (ne : s.motorSource u ≠ i) (pins : BitVec 9) (level : Bool) :
    ({ s with pins := pinsWith pins p level } : State).motorOn u = ({ s with pins := pins } : State).motorOn u :=
  congrArg (s.enabled u && ·) (level_pinsWith_other h ne pins level)

/-- R108: new levels without an edge of STEP or WDATA. -/
theorem setPins_sample {s : State} {pins : BitVec 9} (t : Option Nat)
    (step : ¬ (s.level .step = false ∧ ({ s with pins := pins } : State).level .step = true))
    (wdata : ¬ (s.level .wdata = false ∧ ({ s with pins := pins } : State).level .wdata = true)) :
    s.setPins pins t = s.sample pins := by
  have level := sample_level s pins
  unfold State.sample at level
  unfold State.setPins
  simp only [level, if_neg step, if_neg wdata]
  rfl

/-- R108: an input on a pin of its own that is not a pulse takes a level. -/
theorem setInput_sample {s : State} {i : Input} {p : InPin} (h : OnOwnPin s i p) (level : Bool)
    (pulse : level = true → i ≠ .step ∧ i ≠ .wdata) : s.setInput i level = s.sample (pinsWith s.pins p level) := by
  have quiet : ∀ j, (level = true → i ≠ j) →
      ¬ (s.level j = false ∧ ({ s with pins := pinsWith s.pins p level } : State).level j = true) := by
    rintro j ne ⟨low, high⟩
    by_cases e : j = i
    · subst e
      rw [level_pinsWith_own h.1] at high
      exact ne high rfl
    · rw [level_pinsWith_other h e] at high
      exact Bool.false_ne_true (low.symm.trans high)
  rw [setInput_pin h.1]
  exact setPins_sample none (quiet _ fun e => (pulse e).1) (quiet _ fun e => (pulse e).2)

theorem sample_pinTaken (s : State) (p : InPin) (level : Bool) :
    PinTaken s (s.sample (pinsWith s.pins p level)) p level := fun q => by
  rw [sample_pins]
  exact pinsWith_getLsbD s.pins p q level

/-! ### SIDE -/

theorem closes_of_head {old s : State} {w : Window} (open_ : s.wcu.window = some w) (h : old.head ≠ s.head) :
    State.closes old s = true := by
  simp [State.closes, open_, h]

/-- R115: the head is the level of SIDE. -/
theorem head_eq (s : State) : s.head = if s.level .side then 1 else 0 := rfl

/-- R82, R115: a change of SIDE leaves no window open. -/
theorem sample_side_window {s : State} {p : InPin} (own : OnOwnPin s .side p) {level : Bool}
    (change : s.level .side ≠ level) : (s.sample (pinsWith s.pins p level)).wcu.window = none := by
  let x : State := { s with pins := pinsWith s.pins p level }
  have motors := (motorsFollowed_frame s x).rest
  have head : s.head ≠ (motorsFollowed s x).head := by
    have same : (motorsFollowed s x).level .side = level :=
      (level_congr (s := x) (by rw [motors]) (by rw [motors]) _).trans (level_pinsWith_own own.1 _ _)
    rw [head_eq, head_eq, same]
    revert change
    cases s.level .side <;> cases level <;> simp
  refine react_window_none (s := x) ?_ ?_
  · cases e : x.wcu.window with
    | none => exact .inl rfl
    | some w => exact .inr (closes_of_head (w := w) (by rw [motors]; exact e) head)
  · rw [level_pinsWith_other own (by decide)]
    rintro ⟨low, high⟩
    exact Bool.false_ne_true (low.symm.trans high)

/-- Settles O32: SIDE moves no motor and no head but both keys, so a reaction to it leaves the rotations and closes an
open window. -/
theorem sideChanged : Obligations.SideChanged := by
  intro s level p own
  have ownTaken : OnOwnPin s.taken .side p := own
  let t := s.taken.sample (pinsWith s.pins p level)
  have row : exec (.sideChange level) s = .next (State.followQueue s t) :=
    congrArg (fun x => Host.Outcome.next (State.followQueue s x)) (setInput_sample ownTaken level (by simp))
  have side : t.level .side = level := (sample_level ..).trans (level_pinsWith_own ownTaken.1 _ _)
  have head : t.head = if level then 1 else 0 := by rw [head_eq, side]
  have heads : ∀ u, HeadSame s t u := fun u => sample_head s.taken _ u
  have motors : ∀ u, MotorSame s t u := fun u =>
    sample_motor (s := s.taken)
      (motorOn_pinsWith_other ownTaken (motorSource_ne (by decide) u) _ _).symm
  have management : NoHold s → ManagementSame s t := fun n => sample_management (s := s.taken) n _
  refine ⟨t, row, sample_pinTaken s.taken p level, head, fun u => ⟨?_, heads u, motors u, fun n => ?_⟩,
    fun change => sample_side_window ownTaken change, sample_now .., sample_modes _ _, management⟩
  · rw [State.key, head, (heads u).1]
  · have turns : t.rotating u = s.rotating u := rotating_congr (motors u).1 (managementSame_media (management n) u).1
    have rotation := react_rotation s.taken { s.taken with pins := pinsWith s.pins p level } u
    rw [show (react s.taken { s.taken with pins := pinsWith s.pins p level }).rotating u = s.rotating u from turns]
      at rotation
    refine ⟨rotation.1.trans (if_pos rfl), rotation.2.trans (if_neg ?_)⟩
    rintro ⟨off, on⟩
    exact Bool.false_ne_true (off.symm.trans on)

end Sys2Proof.Machine
end

section
/-! PROOFS. O34: a STEP pulse (R34, R113, R114, R119). -/

namespace Sys2Proof.Machine

open Sys2Proof.Safety

/-! ### Events that move no head and no motor -/

/-- An event has moved no head and no motor, and has left the management side and the clock. -/
structure StandsStill (s t : State) : Prop where
  management : ManagementSame s t
  head : ∀ u, HeadSame s t u
  motor : ∀ u, MotorSame s t u
  now : t.now = s.now

theorem StandsStill.refl (s : State) : StandsStill s s :=
  ⟨(EventFrame.refl s).management, fun _ => ⟨rfl, rfl, rfl, rfl⟩, fun _ => ⟨rfl, rfl⟩, rfl⟩

theorem StandsStill.trans {s t x : State} (h : StandsStill s t) (k : StandsStill t x) : StandsStill s x :=
  ⟨managementSame_trans h.management k.management, fun u => headSame_trans (h.head u) (k.head u),
    fun u => motorSame_trans (h.motor u) (k.motor u), k.now.trans h.now⟩

theorem onOwnPin_congr {s t : State} {i : Input} {p : InPin} (h : OnOwnPin s i p) (profile : t.profile = s.profile) :
    OnOwnPin t i p := by
  simp only [OnOwnPin, State.pinOf, profile]
  exact h

/-- An input that drives no motor stands still for the heads and the motors. -/
theorem sample_standsStill {s : State} (n : NoHold s) {pins : BitVec 9}
    (motor : ∀ u, ({ s with pins := pins } : State).motorOn u = s.motorOn u) : StandsStill s (s.sample pins) :=
  ⟨sample_management n pins, sample_head s pins, fun u => sample_motor (motor u).symm, sample_now s pins⟩

/-! ### The STEP edge -/

theorem takeStep_unit (s : State) (u : DriveId) (inward : Bool) :
    (s.takeStep u inward).unit u =
      { s.unit u with
        cylinder :=
          if s.stepInside u inward then (if inward then (s.unit u).cylinder + 1 else (s.unit u).cylinder - 1)
          else (s.unit u).cylinder
        lastDir := if inward then .inward else .outward
        settleDue := if s.stepInside u inward then s.settleFrom else (s.unit u).settleDue
        latch := (s.unit u).latch && (s.unit u).media ≠ .ready } := unit_setUnit_self ..

theorem takeStep_other (s : State) {u v : DriveId} (h : v ≠ u) (inward : Bool) :
    (s.takeStep u inward).unit v = s.unit v := unit_setUnit_ne _ _ h

theorem stepEdge_gated {s : State} (h : s.level .wgate = true) : s.stepEdge = s := if_pos h

/-- R113: both selected units take the step, neither for the other. -/
theorem stepEdge_unit {s : State} (h : s.level .wgate = false) (u : DriveId) :
    s.stepEdge.unit u = if s.selected u then (s.takeStep u (s.level .dir)).unit u else s.unit u := by
  have edge : s.stepEdge =
      driveIds.foldl (fun t u => if s.selected u then t.takeStep u (s.level .dir) else t) s := by
    rw [State.stepEdge, h]
    rfl
  rw [edge]
  let first := if s.selected 0 then s.takeStep 0 (s.level .dir) else s
  show (if s.selected 1 then first.takeStep 1 (s.level .dir) else first).unit u = _
  match u with
  | 0 =>
    have other : (if s.selected 1 then first.takeStep 1 (s.level .dir) else first).unit 0 = first.unit 0 := by
      split
      · exact takeStep_other _ (by decide) _
      · rfl
    rw [other]
    exact apply_ite (fun x : State => x.unit 0) _ _ _
  | 1 =>
    have one : first.unit 1 = s.unit 1 := by
      show (if s.selected 0 then s.takeStep 0 (s.level .dir) else s).unit 1 = _
      split
      · exact takeStep_other _ (by decide) _
      · rfl
    have profile : first.profile = s.profile := by
      show (if s.selected 0 then s.takeStep 0 (s.level .dir) else s).profile = _
      split <;> rfl
    have now : first.now = s.now := by
      show (if s.selected 0 then s.takeStep 0 (s.level .dir) else s).now = _
      split <;> rfl
    have inside : first.stepInside 1 (s.level .dir) = s.stepInside 1 (s.level .dir) := by
      rw [State.stepInside, one, profile, State.stepInside]
    have settle : first.settleFrom = s.settleFrom := by
      rw [State.settleFrom, State.after, profile, now, State.settleFrom, State.after]
    rw [apply_ite (fun x : State => x.unit 1), takeStep_unit, takeStep_unit, one, inside, settle]

theorem stepEdge_rest (s : State) : s.stepEdge = { s with units := s.stepEdge.units } := by
  have one : ∀ (x : State) (u : DriveId) (p : Bool) (i : Bool),
      (if p then x.takeStep u i else x) = { x with units := (if p then x.takeStep u i else x).units } :=
    fun x u p i => by cases p <;> rfl
  unfold State.stepEdge
  split
  · rfl
  · dsimp only [driveIds, List.foldl_cons, List.foldl_nil]
    rw [one, one s 0]

/-- R119: a step leaves a unit's media, slot and motor. -/
theorem stepEdge_keeps (s : State) (u : DriveId) :
    s.stepEdge.unit u =
      { s.unit u with
        cylinder := (s.stepEdge.unit u).cylinder, lastDir := (s.stepEdge.unit u).lastDir
        settleDue := (s.stepEdge.unit u).settleDue, latch := (s.stepEdge.unit u).latch } := by
  cases h : s.level .wgate with
  | true => rw [stepEdge_gated h]
  | false =>
    rw [stepEdge_unit h]
    split
    · rw [takeStep_unit]
    · rfl

/-- The event of a STEP edge moves the heads as the edge does, and nothing else of the heads, the motors and the
management side. -/
theorem stepEvent {s : State} (n : NoHold s) :
    let t := s.event State.stepEdge
    ManagementSame s t ∧ (∀ u, HeadSame s.stepEdge t u) ∧ (∀ u, MotorSame s t u) ∧ t.now = s.now ∧ t.pins = s.pins := by
  have rest := stepEdge_rest s
  have unit := stepEdge_keeps s
  have eject : s.stepEdge.eject = s.eject := by rw [rest]
  obtain ⟨management, heads, pins, now, -⟩ := react_management s s.stepEdge (noHold_congr n eject)
  have before : ManagementSame s s.stepEdge :=
    ⟨⟨by rw [rest], by rw [rest], by rw [rest], by rw [rest], eject, fun u => by rw [unit u]; exact ⟨rfl, rfl⟩,
      by rw [rest], by rw [rest], by rw [rest], by rw [rest], by rw [rest]⟩, by rw [rest], by rw [rest]⟩
  have motors : ∀ u, MotorSame s s.stepEdge u := fun u => by
    rw [MotorSame, unit u]
    exact ⟨rfl, rfl⟩
  have signal : ∀ u, s.motorOn u = s.stepEdge.motorOn u := fun u => by rw [rest]; rfl
  exact ⟨managementSame_trans before management, heads,
    fun u => motorSame_trans (motors u) (react_motorSame (signal u)),
    now.trans (by rw [rest]), pins.trans (by rw [rest])⟩

/-! ### The pulse -/

/-- R85, R113: a pulse finds its pin released. -/
theorem released_standsStill {s : State} {i : Input} {p : InPin} (own : OnOwnPin s i p)
    (notMotor : ∀ u, i ≠ selectInput u ∧ i ≠ motorInput u) (n : NoHold s) :
    StandsStill s (s.released i) ∧ (s.released i).level i = false ∧ (∀ j, j ≠ i → (s.released i).level j = s.level j) ∧
      ∀ r : InPin, r ≠ p → (s.released i).pins.getLsbD r.val = s.pins.getLsbD r.val := by
  unfold State.released
  cases level : s.level i with
  | false => exact ⟨.refl s, level, fun _ _ => rfl, fun _ _ => rfl⟩
  | true =>
    rw [if_pos rfl, setInput_sample own false nofun]
    refine ⟨sample_standsStill n fun u => motorOn_pinsWith_other own (motorSource_ne notMotor u) _ _, ?_,
      fun j ne => ?_, fun r ne => ?_⟩
    · exact (sample_level ..).trans (level_pinsWith_own own.1 _ _)
    · exact (sample_level ..).trans (level_pinsWith_other own ne _ _)
    · exact (sample_pinTaken s p false r).trans (if_neg ne)

/-- R108: new levels with an edge of STEP and none of WDATA. -/
theorem setPins_step {s : State} {pins : BitVec 9} (t : Option Nat) (low : s.level .step = false)
    (high : ({ s with pins := pins } : State).level .step = true)
    (wdata : ({ s with pins := pins } : State).level .wdata = s.level .wdata) :
    s.setPins pins t = (s.sample pins).event State.stepEdge := by
  have level := sample_level s pins
  unfold State.sample at level
  unfold State.setPins
  simp only [level, low, high, wdata, and_self, if_true]
  rw [if_neg]
  · rfl
  · rintro ⟨off, on⟩
    exact Bool.false_ne_true (off.symm.trans on)

/-- R113: a pulse on STEP, with DIR's pin at a level, is an edge of STEP between two samples that move no head. -/
theorem stepPulse_edge {s : State} {p q : InPin} (step : OnOwnPin s .step p) (dir : OnOwnPin s .dir q) (n : NoHold s)
    (inward : Bool) :
    ∃ a, StandsStill s a ∧ a.level .dir = inward ∧ a.level .step = true ∧
      (∀ j, j ≠ .step → j ≠ .dir → a.level j = s.level j) ∧
      (∀ r : InPin, r ≠ p → r ≠ q → a.pins.getLsbD r.val = s.pins.getLsbD r.val) ∧
      s.stepPulse inward = (a.event State.stepEdge).setInput .step false := by
  obtain ⟨still, low, levels, others⟩ := released_standsStill step (by decide) n
  let b := s.released .step
  have stepB : OnOwnPin b .step p := onOwnPin_congr step (managementSame_profile still.management)
  have dirB : OnOwnPin b .dir q := onOwnPin_congr dir (managementSame_profile still.management)
  let pins := pinsWith (pinsWith b.pins q inward) p true
  have level : ∀ j, j ≠ .step → j ≠ .dir → ({ b with pins := pins } : State).level j = b.level j := fun j ns nd =>
    (level_pinsWith_other stepB ns _ _).trans (level_pinsWith_other dirB nd _ _)
  have signal : ∀ u, ({ b with pins := pins } : State).motorOn u = b.motorOn u := fun u =>
    (motorOn_pinsWith_other stepB (motorSource_ne (by decide) u) _ _).trans
      (motorOn_pinsWith_other dirB (motorSource_ne (by decide) u) _ _)
  have high : ({ b with pins := pins } : State).level .step = true := level_pinsWith_own stepB.1 _ _
  refine ⟨b.sample pins, still.trans (sample_standsStill (managementSame_noHold still.management n) signal), ?_, ?_,
    fun j ns nd => ?_, fun r np nq => ?_, ?_⟩
  · exact ((sample_level ..).trans (level_pinsWith_other stepB (by decide) _ _)).trans (level_pinsWith_own dirB.1 _ _)
  · exact (sample_level ..).trans high
  · exact ((sample_level ..).trans (level j ns nd)).trans (levels j ns)
  · rw [sample_pins]
    show (pinsWith (pinsWith b.pins q inward) p true).getLsbD r.val = _
    rw [pinsWith_getLsbD, if_neg np, pinsWith_getLsbD, if_neg nq]
    exact others r np
  · rw [← setPins_step none low high (level _ (by decide) (by decide))]
    unfold State.stepPulse
    simp only [show (s.released .step).pinOf .dir = some q from dirB.1,
      show (s.released .step).pinOf .step = some p from stepB.1]
    rfl

/-- Settles O34: the pulse is one STEP edge between two samples that move no head, and the edge moves each selected
unit's head by the rule of the statement. -/
theorem stepTaken : Obligations.StepTaken := by
  intro s inward p q step dir n
  obtain ⟨a, still, dirA, stepA, levels, others, pulse⟩ :=
    stepPulse_edge (s := s.taken) step dir n inward
  have nA : NoHold a := managementSame_noHold still.management n
  obtain ⟨management, heads, motors, now, pins⟩ := stepEvent nA
  let b := a.event State.stepEdge
  have profile : b.profile = s.profile :=
    (managementSame_profile management).trans (managementSame_profile still.management)
  have stepB : OnOwnPin b .step p := onOwnPin_congr step profile
  let t := b.sample (pinsWith b.pins p false)
  have after : StandsStill b t := sample_standsStill (managementSame_noHold management nA) fun u =>
    motorOn_pinsWith_other stepB (motorSource_ne (by decide) u) _ _
  have same : ManagementSame s t :=
    managementSame_trans (managementSame_trans still.management management) after.management
  have row : exec (.step inward) s = .next t := by
    refine (congrArg (fun x => Host.Outcome.next (State.followQueue s x)) (pulse.trans ?_)).trans
      (congrArg Host.Outcome.next (followQueue_same same))
    exact setInput_sample stepB false nofun
  have head : ∀ u, HeadSame a.stepEdge t u := fun u => headSame_trans (heads u) (after.head u)
  have wgate : a.level .wgate = s.level .wgate := levels _ (by decide) (by decide)
  have selected : ∀ u, a.selected u = s.selected u := fun u => by
    have input : a.level (selectInput u) = s.level (selectInput u) := by
      refine levels _ ?_ ?_ <;> revert u <;> decide
    rw [State.selected, input, State.enabled, managementSame_profile still.management]
    rfl
  refine ⟨t, row, (sample_level ..).trans (level_pinsWith_own stepB.1 _ _), ?_, fun r np nq => ?_,
    after.now.trans (now.trans still.now), same, sample_modes _ _, fun u =>
      ⟨motorSame_trans (motorSame_trans (still.motor u) (motors u)) (after.motor u), fun gated => ?_,
        fun open_ => ⟨fun off => ?_, fun on => ?_⟩⟩⟩
  · have before : b.level .dir = inward := (level_congr (managementSame_profile management) pins .dir).trans dirA
    exact ((sample_level ..).trans (level_pinsWith_other stepB (by decide) _ _)).trans before
  · rw [show t.pins = pinsWith b.pins p false from sample_pins .., pinsWith_getLsbD, if_neg np,
      show b.pins = a.pins from pins]
    exact others r np nq
  · have unmoved := head u
    rw [stepEdge_gated (wgate.trans gated)] at unmoved
    exact headSame_trans (still.head u) unmoved
  · have unmoved := head u
    rw [HeadSame, stepEdge_unit (wgate.trans open_), selected, off] at unmoved
    exact headSame_trans (still.head u) unmoved
  · obtain ⟨cylinder, -, latch, settle⟩ := still.head u
    have media := (managementSame_media still.management u).1
    have profileA := managementSame_profile still.management
    have moved := head u
    rw [HeadSame, stepEdge_unit (wgate.trans open_), selected, on, if_pos rfl, takeStep_unit, dirA] at moved
    obtain ⟨cylinderT, dirT, latchT, settleT⟩ := moved
    have inside : (a.stepInside u inward = true) ↔
        if inward then (s.unit u).cylinder + 1 < s.profile.physical else 0 < (s.unit u).cylinder := by
      rw [State.stepInside, cylinder, profileA]
      cases inward <;> exact decide_eq_true_iff
    have settleA : a.settleFrom = if s.profile.settle = 0 then none else some (s.now + s.profile.settle * 16000) := by
      rw [State.settleFrom, State.after, profileA, still.now]
      rfl
    refine ⟨dirT, ?_, fun within => ?_, fun outside => ?_⟩
    · have other : ∀ m : Media, decide (m ≠ .ready) = (m != .ready) := fun m => by cases m <;> rfl
      exact latchT.trans (congrArg₂ and latch ((congrArg (fun m => decide (m ≠ Media.ready)) media).trans (other _)))
    · have accepted := inside.mpr within
      rw [accepted] at cylinderT settleT
      exact ⟨by rw [cylinderT, cylinder]; rfl, settleT.trans settleA⟩
    · have refused := Bool.eq_false_iff.mpr (outside ∘ inside.mp)
      rw [refused] at cylinderT settleT
      exact ⟨cylinderT.trans cylinder, settleT.trans settle⟩

end Sys2Proof.Machine
end

section
/-! PROOFS. What the following of a demand that only ends can do to the buffers (R41 to R51): flushes go on, and no key
becomes resident. -/

namespace Sys2Proof.Machine

open Sys2Proof.Safety

/-! ### A buffer that the cache tends -/

/-- R44, R53: what the cache can do to a buffer without a result from the card: its flush goes on, at class 2 only while
a demand fill waits, and it does not become resident. -/
structure Tended (w : Prop) (x y : Buffer) : Prop where
  flushing : x.state = .flushing →
    y.state = .flushing ∧ (y.flushClass = x.flushClass ∨ w ∧ y.flushClass = some 2)
  held : ∀ k, y.holds k = true → y.state.resident = true → x.holds k = true ∧ x.state.resident = true

theorem Tended.refl (w : Prop) (x : Buffer) : Tended w x x := ⟨fun h => ⟨h, .inl rfl⟩, fun _ h r => ⟨h, r⟩⟩

theorem Tended.trans {w : Prop} {x y z : Buffer} (h : Tended w x y) (k : Tended w y z) : Tended w x z where
  flushing f := by
    obtain ⟨fy, cy⟩ := h.flushing f
    obtain ⟨fz, same | raised⟩ := k.flushing fy
    · exact ⟨fz, by rw [same]; exact cy⟩
    · exact ⟨fz, .inr raised⟩
  held key hold r := by
    obtain ⟨hold', r'⟩ := k.held key hold r
    exact h.held key hold' r'

theorem Tended.mono {w w' : Prop} (i : w → w') {x y : Buffer} (h : Tended w x y) : Tended w' x y :=
  ⟨fun f => ⟨(h.flushing f).1, (h.flushing f).2.imp_right fun c => ⟨i c.1, c.2⟩⟩, h.held⟩

/-- A buffer whose state, key and fate, and flush class, are as they were. -/
theorem Tended.of_same {w : Prop} {x y : Buffer} (state : y.state = x.state) (key : y.key = x.key)
    (fate : y.fate = x.fate)
    (cls : y.flushClass = x.flushClass) : Tended w x y := by
  refine ⟨fun f => ⟨state.trans f, .inl cls⟩, fun k hold r => ?_⟩
  rw [Buffer.holds, state, key, fate] at hold
  exact ⟨hold, by rw [← state]; exact r⟩

/-- R43: a buffer that does not flush begins a fill. -/
theorem Tended.of_filling {w : Prop} {x y : Buffer} (idle : x.state ≠ .flushing) (fills : y.state = .filling) :
    Tended w x y :=
  ⟨fun f => absurd f idle, fun _ _ r => by rw [fills] at r; cases r⟩

/-- R53, R56: a resident buffer that does not flush keeps its key. -/
theorem Tended.of_resident {w : Prop} {x y : Buffer} (idle : x.state ≠ .flushing) (resident : x.state.resident = true)
    (key : y.key = x.key) (fate : y.fate = x.fate) : Tended w x y := by
  refine ⟨fun f => absurd f idle, fun k hold r => ⟨?_, resident⟩⟩
  have held : x.state ≠ .free := fun e => by rw [e] at resident; cases resident
  simp only [Buffer.holds, key, fate, Bool.and_eq_true, decide_eq_true_eq] at hold ⊢
  exact ⟨⟨held, hold.1.2⟩, hold.2⟩

/-- Every buffer is tended, and no demand fill comes to wait. -/
structure Tending (s t : State) : Prop where
  buffers : ∀ b, Tended (s.cache.waiting ≠ []) (s.buffer b) (t.buffer b)
  waiting : s.cache.waiting = [] → t.cache.waiting = []

namespace Tending

theorem refl (s : State) : Tending s s := ⟨fun _ => .refl .., id⟩

theorem trans {s t x : State} (h : Tending s t) (k : Tending t x) : Tending s x where
  buffers b := (h.buffers b).trans ((k.buffers b).mono (mt h.waiting))
  waiting := k.waiting ∘ h.waiting

theorem of_same {s t : State} (buffers : t.buffers = s.buffers)
    (waiting : s.cache.waiting = [] → t.cache.waiting = []) :
    Tending s t :=
  ⟨fun b => by rw [show t.buffer b = s.buffer b from congrArg (look · b) buffers]; exact .refl .., waiting⟩

theorem ite {p : Prop} [Decidable p] {s a b : State} (h : p → Tending s a) (k : ¬ p → Tending s b) :
    Tending s (if p then a else b) := by
  split
  · exact h ‹_›
  · exact k ‹_›

theorem foldl {α : Type} {g : State → α → State} (h : ∀ s x, Tending s (g s x)) (xs : List α) (s : State) :
    Tending s (xs.foldl g s) := by
  induction xs generalizing s with
  | nil => exact .refl s
  | cons x xs ih => exact (h s x).trans (ih _)

end Tending

/-! ### Single operations -/

theorem mapBuffer_tending {s : State} {b : BufferId} {g : Buffer → Buffer}
    (h : Tended (s.cache.waiting ≠ []) (s.buffer b) (g (s.buffer b))) : Tending s (s.mapBuffer b g) := by
  refine ⟨fun c => ?_, id⟩
  rw [buffer_mapBuffer]
  split
  · rename_i e; rw [e]; exact h
  · exact .refl ..

theorem setCache_tending {s : State} {c : Cache} (h : s.cache.waiting = [] → c.waiting = []) :
    Tending s (s.setCache c) := .of_same rfl h

theorem repost_tending (s : State) (q : Requester) (cls : Nat) : Tending s (s.repost q cls) := by
  unfold State.repost
  split
  · exact .refl s
  · exact .of_same rfl id

theorem stampBuffer_tending (s : State) (b : BufferId) : Tending s (s.stampBuffer b) :=
  (setCache_tending (c := { s.cache with recency := s.cache.recency + 1 }) id).trans
    (mapBuffer_tending (b := b) (g := fun x => { x with recency := some (s.cache.recency + 1) })
      (.of_same rfl rfl rfl rfl))

theorem startFill_tending (s : State) (b : BufferId) : Tending s (s.startFill b) := by
  unfold State.startFill
  split
  · exact .refl s
  · split
    · exact .refl s
    · rename_i p _
      refine (mapBuffer_tending (b := b) (g := fun x => { x with block := p.firstBlock })
          (.of_same rfl rfl rfl rfl)).trans ?_
      unfold State.postFill
      split
      · exact .refl _
      · split
        · exact .refl _
        · exact .of_same rfl id

theorem setFillClass_tending (s : State) (b : BufferId) (cls : Nat) : Tending s (s.setFillClass b cls) :=
  (mapBuffer_tending (g := fun x => { x with fillClass := some cls }) (.of_same rfl rfl rfl rfl)).trans
    (repost_tending ..)

theorem allocate_tending {s : State} {b : BufferId} (h : (s.buffer b).state ≠ .flushing) (k : Key) (cls : Nat) :
    Tending s (s.allocate b k cls) := by
  unfold State.allocate
  split
  · exact .refl s
  · rename_i f _
    let t : State := { s with choices := s.choices + 1 }
    have begun : Tending s t := .of_same rfl id
    exact ((begun.trans (mapBuffer_tending (s := t)
      (g := fun _ => { Buffer.free with
        state := .filling, key := some k, entries := freshEntries f k s.choices, fillClass := some cls })
      (.of_filling h rfl))).trans (stampBuffer_tending ..)).trans (startFill_tending ..)

theorem postFlush_tending (s : State) (b : BufferId) (p : Span) (blk : Nat) : Tending s (s.postFlush b p blk) := by
  refine (mapBuffer_tending (b := b)
    (g := fun x => { x with block := blk, attempt := { x.attempt with cleared := [] } }) (.of_same rfl rfl rfl rfl)).trans ?_
  unfold State.postFlush
  exact .ite (fun _ => .of_same rfl id) fun _ => .of_same rfl id

theorem sendFlush_tending {s : State} {b : BufferId} (h : (s.buffer b).state = .dirty) (cls : Nat) :
    Tending s (s.sendFlush b cls) := by
  unfold State.sendFlush
  split
  · exact .refl s
  · refine (mapBuffer_tending (.of_resident ?_ ?_ rfl rfl)).trans (postFlush_tending ..)
    · rw [h]; nofun
    · rw [h]; rfl

/-- R53: an attempt of a buffer with no block to write. -/
theorem beginAttempt_tending {s : State} {b : BufferId} (h : (s.buffer b).state = .dirty) (cls : Nat) :
    Tending s (s.beginAttempt b cls) := by
  unfold State.beginAttempt
  split
  · let t := s.mapBuffer b fun x => { x with attempt := Attempt.none }
    have own : t.buffer b = { s.buffer b with attempt := Attempt.none } := buffer_setBuffer_self ..
    have dirty : (t.buffer b).state = .dirty := by rw [own]; exact h
    have first : Tending s t := mapBuffer_tending (.of_same rfl rfl rfl rfl)
    let x := ((t.setBuffer b (t.buffer b).attemptOk).noteAttempt b none).oweFillPass
    have ended : Tending t x := by
      refine ((mapBuffer_tending (g := Buffer.attemptOk) (.of_resident ?_ ?_ rfl rfl)).trans
        (.of_same rfl id)).trans (.of_same rfl id)
      · rw [dirty]; nofun
      · rw [dirty]; rfl
    have clean : (t.buffer b).attempt.failure = none := by rw [own]; rfl
    refine first.trans ?_
    show Tending t (t.endAttempt b)
    unfold State.endAttempt
    simp only [clean]
    refine .ite (fun due => ended.trans (sendFlush_tending ?_ 4)) fun _ => ended
    unfold State.writeBackDue at due
    split at due
    · cases due
    · exact of_decide_eq_true (Bool.and_eq_true_iff.mp due).1
  · exact sendFlush_tending h cls

/-! ### The choice of a buffer (R43) -/

theorem foldl_older_mem (s : State) (bs : List BufferId) (b : BufferId) : bs.foldl s.older b ∈ b :: bs := by
  induction bs generalizing b with
  | nil => exact .head _
  | cons c cs ih =>
    obtain e | m := List.mem_cons.mp (ih (s.older b c))
    · rw [List.foldl_cons, e]
      unfold State.older
      split
      · exact .tail _ (.head _)
      · exact .head _
    · exact .tail _ (.tail _ m)

theorem leastRecent_test {s : State} {test : Buffer → Bool} {b : BufferId} (h : s.leastRecent test = some b) :
    test (s.buffer b) = true := by
  unfold State.leastRecent at h
  split at h
  · cases h
  · rename_i c cs e
    cases h
    have m := foldl_older_mem s cs c
    rw [← e] at m
    exact (Bool.and_eq_true_iff.mp (List.mem_filter.mp m).2).1

theorem spareBuffer_idle {s : State} {b : BufferId} (h : s.spareBuffer = some b) : (s.buffer b).state ≠ .flushing := by
  unfold State.spareBuffer State.firstFree at h
  split at h
  · rename_i found
    cases h
    have free : (s.buffer b).state = .free := by simpa using List.find?_some found
    rw [free]; nofun
  · have test := leastRecent_test h
    intro e
    rw [e] at test
    cases test

theorem demandFill_tending (s : State) (u : DriveId) (k : Key) : Tending s (s.demandFill u k).1 := by
  unfold State.demandFill
  split
  · rename_i spare; exact allocate_tending (spareBuffer_idle spare) k 1
  · split
    · rename_i b found
      have fills := leastRecent_test found
      have filling : (s.buffer b).state = .filling := by
        simp only [Buffer.fills, Bool.and_eq_true, decide_eq_true_eq] at fills
        exact fills.1.1
      have idle : (s.buffer b).state ≠ .flushing := by rw [filling]; nofun
      refine .ite (fun _ => mapBuffer_tending (.of_filling idle filling)) fun _ => ?_
      have withdrawn : Tending s (s.withdraw (.fill b)) := .of_same rfl id
      exact withdrawn.trans (allocate_tending (s := s.withdraw (.fill b)) idle k 1)
    · split
      · rename_i found; exact beginAttempt_tending (of_decide_eq_true (leastRecent_test found)) 2
      · exact .refl s

/-! ### The stages of the cache's part -/

theorem resumeFill_tending (s : State) (u : DriveId) : Tending s (s.resumeFill u) := by
  have drop : ∀ t : State, Tending t (t.setCache { t.cache with waiting := t.cache.waiting.filter fun v => v ≠ u }) :=
    fun t => setCache_tending fun e => by rw [e]; rfl
  unfold State.resumeFill
  simp only []
  split
  · exact drop s
  · rename_i k _
    refine .ite (fun _ => drop s) fun _ => ?_
    have fill := demandFill_tending s u k
    split
    · rename_i t e; rw [e] at fill; exact fill.trans (drop t)
    · rename_i t e; rw [e] at fill; exact fill

theorem lowerFill_tending (s : State) (b : BufferId) : Tending s (s.lowerFill b) :=
  .ite (fun _ => setFillClass_tending ..) fun _ => .refl s

theorem swapRecency_tending (s : State) (a b : BufferId) : Tending s (s.swapRecency a b) :=
  (mapBuffer_tending (b := a) (g := fun v => { v with recency := (s.buffer b).recency })
      (.of_same rfl rfl rfl rfl)).trans
    (mapBuffer_tending (b := b) (g := fun v => { v with recency := (s.buffer a).recency }) (.of_same rfl rfl rfl rfl))

theorem orderStamps_tending (old s : State) : Tending s (State.orderStamps old s) := by
  unfold State.orderStamps
  split
  · exact .ite (fun _ => swapRecency_tending ..) fun _ => .refl s
  · exact .refl s

theorem raiseFlush_tending {s : State} (waits : s.cache.waiting ≠ []) (b : BufferId) : Tending s (s.raiseFlush b) := by
  refine .ite (fun _ => .refl s) fun _ => (mapBuffer_tending ⟨fun f => ⟨f, .inr ⟨waits, rfl⟩⟩, ?_⟩).trans
    (repost_tending ..)
  exact fun _ hold r => ⟨hold, r⟩

theorem raiseFlush_waiting (s : State) (b : BufferId) : (s.raiseFlush b).cache = s.cache := by
  unfold State.raiseFlush State.repost
  split
  · rfl
  · split <;> rfl

/-- R44: while a demand fill waits, flushes are raised. -/
theorem raiseForWaiting_tending (s : State) : Tending s s.raiseForWaiting := by
  refine .ite (fun _ => .refl s) fun waits => ?_
  generalize bufferIds = bs
  induction bs generalizing s with
  | nil => exact .refl s
  | cons b bs ih =>
    have raise : ∀ p : Prop, [Decidable p] → Tending s (if p then s.raiseFlush b else s) ∧
        (if p then s.raiseFlush b else s).cache = s.cache := fun p _ => by
      split
      · exact ⟨raiseFlush_tending waits b, raiseFlush_waiting s b⟩
      · exact ⟨.refl s, rfl⟩
    obtain ⟨first, cache⟩ :=
      raise ((s.buffer b).state = .flushing ∧ (s.buffer b).flushClass = some 4 ∧ s.current b = false)
    exact first.trans (ih _ (by rw [cache]; exact waits))

theorem actOnPrediction_tending (s : State) (u : DriveId) : Tending s (s.actOnPrediction u) := by
  unfold State.actOnPrediction
  split
  · exact .refl s
  · refine .ite (fun _ => ?_) fun _ => .refl s
    split
    · exact .refl s
    · rename_i spare
      have cleared : Tending s (s.setPrediction u none) := .of_same rfl id
      exact cleared.trans (allocate_tending (s := s.setPrediction u none) (spareBuffer_idle spare) ..)

theorem actOnPredictions_tending (s : State) : Tending s s.actOnPredictions := by
  unfold State.actOnPredictions
  split
  · exact .ite (fun _ => (actOnPrediction_tending ..).trans (actOnPrediction_tending ..)) fun _ =>
      (actOnPrediction_tending ..).trans (actOnPrediction_tending ..)
  · exact (actOnPrediction_tending ..).trans (actOnPrediction_tending ..)

theorem lapsePromise_tending (s : State) (u : DriveId) : Tending s (s.lapsePromise u) := by
  refine .foldl (fun t b => .ite (fun _ => mapBuffer_tending ⟨fun f => ⟨f, .inl rfl⟩, fun k hold _ => ?_⟩)
    fun _ => .refl t) _ s
  simp [Buffer.holds] at hold

theorem discardPending_tending (s : State) (test : Capture → Bool) (detail : Nat) :
    Tending s (s.discardPending test detail) := by
  unfold State.discardPending
  split
  · exact .refl s
  · refine .ite (fun _ => .of_same ?_ ?_) fun _ => .refl s
    · exact report_buffers ..
    · intro e
      rw [State.writeLost, report_cache]
      exact e

theorem endDemand_tending (old s : State) (u : DriveId) : Tending s (State.endDemand old s u) := by
  refine .ite (fun _ => .refl s) fun _ => ?_
  have dropped : Tending s (s.setCache { s.cache with waiting := s.cache.waiting.filter fun v => v ≠ u }) :=
    setCache_tending fun e => by rw [e]; rfl
  have cleared : ∀ t : State, Tending t (t.setPrediction u none) := fun t => .of_same rfl id
  exact ((dropped.trans (cleared _)).trans (lapsePromise_tending ..)).trans (discardPending_tending ..)

/-- No unit has a new demand key. -/
def NoNewDemand (old s : State) : Prop := ∀ u, s.demand u = old.demand u ∨ s.demand u = none

theorem CacheFrame.noNewDemand {old s t : State} (h : CacheFrame s t) (n : NoNewDemand old s) : NoNewDemand old t :=
  fun u => by rw [h.demand]; exact n u

theorem meetDemand_noNew {old s : State} (n : NoNewDemand old s) (u : DriveId) : State.meetDemand old s u = s := by
  unfold State.meetDemand
  split
  · rfl
  · obtain e | e := n u
    · exact absurd e.symm ‹_›
    · rw [e]

theorem wantFill_noNew {old s : State} (n : NoNewDemand old s) (u : DriveId) : State.wantFill old s u = s := by
  unfold State.wantFill
  split
  · rfl
  · obtain e | e := n u
    · exact absurd e.symm ‹_›
    · rw [e]

theorem foldl_id {α : Type} {g : State → α → State} {s : State} (h : ∀ x, g s x = s) (xs : List α) :
    xs.foldl g s = s := by
  induction xs with
  | nil => rfl
  | cons x xs ih => rw [List.foldl_cons, h, ih]

/-- R41 to R51: with no new demand key the cache ends demands, lowers fills, and takes the waiting fills and the held
predictions again. -/
theorem followDemand_noNew {old s : State} (n : NoNewDemand old s) :
    let lowered := bufferIds.foldl State.lowerFill (driveIds.foldl (State.endDemand old) s)
    let resumed := if State.available old lowered then lowered.resumeFills else lowered
    let acted := (State.orderStamps old resumed).raiseForWaiting.actOnPredictions
    State.followDemand old s = acted.setCache { acted.cache with passDue := false } := by
  intro lowered resumed acted
  have lowered_frame : CacheFrame s lowered :=
    (foldl_cacheFrame _ (endDemand_frame old) driveIds s).trans (foldl_cacheFrame _ lowerFill_frame bufferIds _)
  have resumed_frame : CacheFrame lowered resumed := ite_cacheFrame (resumeFills_frame _) (.refl _)
  have met : driveIds.foldl (State.meetDemand old) lowered = lowered :=
    foldl_id (meetDemand_noNew (lowered_frame.noNewDemand n)) _
  have wanted : driveIds.foldl (State.wantFill old) resumed = resumed :=
    foldl_id (wantFill_noNew ((lowered_frame.trans resumed_frame).noNewDemand n)) _
  unfold State.followDemand
  simp only []
  rw [met, wanted]

theorem followDemand_tending {old s : State} (n : NoNewDemand old s) : Tending s (State.followDemand old s) := by
  rw [followDemand_noNew n]
  have cleared : ∀ x : State, Tending s x → Tending s (x.setCache { x.cache with passDue := false }) := fun x h =>
    h.trans (setCache_tending id)
  have first := (Tending.foldl (endDemand_tending old) driveIds s).trans (.foldl lowerFill_tending bufferIds _)
  refine cleared _ (Tending.trans (Tending.trans (Tending.trans ?_ (orderStamps_tending old _))
    (raiseForWaiting_tending _)) (actOnPredictions_tending _))
  exact .ite (fun _ => first.trans (.foldl resumeFill_tending _ _)) fun _ => first

theorem retryFill_tending (s : State) (u : DriveId) : Tending s (s.retryFill u) := by
  unfold State.retryFill
  split
  · exact .refl s
  · split
    · exact .refl s
    · refine .ite (fun spoilt => (mapBuffer_tending (.of_filling ?_ rfl)).trans (startFill_tending ..)) fun _ => .refl s
      rw [spoilt.1]; nofun

theorem firstArrival_tending (old s : State) (u : DriveId) : Tending s (State.firstArrival old s u) :=
  .ite (fun _ => retryFill_tending s u) fun _ => .refl s

theorem trackMiss_tending (old s : State) (u : DriveId) : Tending s (State.trackMiss old s u) := by
  refine .ite (fun _ => .refl s) fun _ => ?_
  split
  · exact .refl s
  · exact .ite (fun _ => .refl s) fun _ => .of_same (report_buffers ..) fun e => by rw [report_cache]; exact e

end Sys2Proof.Machine
end

section
/-! PROOFS. O33: motors (R30, R52, R67, R82, R116). -/

namespace Sys2Proof.Machine

open Sys2Proof.Safety

/-! ### A motor follows its signal (R116) -/

/-- R116: a unit whose motor signal was and is at two levels. -/
def UnitState.motored (x : UnitState) (before after : Bool) (spinUp due : Nat) : UnitState :=
  match before, after with
  | false, true =>
    if x.motor = .stopped then
      if spinUp = 0 then { x with motor := .atSpeed, spinUpDue := none }
      else { x with motor := .spinningUp, spinUpDue := some due }
    else x
  | true, false => { x with motor := .stopped, spinUpDue := none }
  | _, _ => x

theorem followMotor_unit (old s : State) (u : DriveId) :
    (State.followMotor old s u).unit u =
      (s.unit u).motored (old.motorOn u) (s.motorOn u) s.profile.spinUp (s.after s.profile.spinUp) := by
  unfold State.followMotor UnitState.motored
  cases old.motorOn u <;> cases s.motorOn u
  case false.true =>
    dsimp only
    split
    · split <;> exact unit_setUnit_self ..
    · rfl
  case true.false => exact unit_setUnit_self ..
  all_goals rfl

theorem motorsFollowed_unit (old s : State) (u : DriveId) :
    (motorsFollowed old s).unit u =
      (s.unit u).motored (old.motorOn u) (s.motorOn u) s.profile.spinUp (s.after s.profile.spinUp) := by
  match u with
  | 0 => exact (followMotor_other old (State.followMotor old s 0) (by decide)).trans (followMotor_unit old s 0)
  | 1 =>
    have rest := (followMotor_frame old s 0).rest
    have other : (State.followMotor old s 0).unit 1 = s.unit 1 := followMotor_other old s (by decide)
    have signal : (State.followMotor old s 0).motorOn 1 = s.motorOn 1 := by rw [rest]; rfl
    have profile : (State.followMotor old s 0).profile = s.profile := by rw [rest]
    have after : ∀ n, (State.followMotor old s 0).after n = s.after n := fun n => by rw [rest]; rfl
    show (State.followMotor old (State.followMotor old s 0) 1).unit 1 = _
    rw [followMotor_unit, other, signal, profile, after]

/-! ### Frames of the clock -/

theorem runTo_management (s : State) (m : Nat) : ManagementSame s (s.runTo m) := (runTo_frame s m).management

theorem HeadKept.head {s t : State} {u : DriveId} (h : HeadKept (s.unit u) (t.unit u)) : HeadSame s t u := by
  unfold HeadKept at h
  rw [HeadSame, h]
  exact ⟨rfl, rfl, rfl, rfl⟩

theorem HeadKept.motor {s t : State} {u : DriveId} (h : HeadKept (s.unit u) (t.unit u)) : MotorSame s t u := by
  unfold HeadKept at h
  rw [MotorSame, h]
  exact ⟨rfl, rfl⟩

theorem runTo_standsStill (s : State) (m : Nat) :
    (∀ u, HeadSame s (s.runTo m) u) ∧ (∀ u, MotorSame s (s.runTo m) u) ∧ (s.runTo m).pins = s.pins :=
  ⟨fun u => ((runTo_frame s m).units u).head, fun u => ((runTo_frame s m).units u).motor, (runTo_frame s m).pins⟩

theorem modeOf_notAtSpeed {s : State} {u : DriveId} (h : (s.unit u).motor ≠ .atSpeed) : s.modeOf u = .quiet := by
  unfold State.modeOf
  split
  · rfl
  · rfl

/-! ### The flush on stop (R52) -/

theorem span_congr {s t : State} {k : Key} (mounted : (t.unit k.unit).mounted = (s.unit k.unit).mounted)
    (slots : t.slots = s.slots) (formats : t.formats = s.formats) : t.span k = s.span k := by
  simp only [State.span, State.image, State.slot, mounted, slots, formats]

theorem nextFlushBlock_congr {s t : State} {b : BufferId} (buffer : t.buffer b = s.buffer b)
    (span : ∀ k, t.span k = s.span k) (n : Nat) : t.nextFlushBlock b n = s.nextFlushBlock b n := by
  simp only [State.nextFlushBlock, buffer, span]

theorem postFlush_buffer_ne (s : State) {b c : BufferId} (h : b ≠ c) (p : Span) (blk : Nat) :
    (s.postFlush c p blk).buffer b = s.buffer b := by
  have mapped : ∀ g, (s.mapBuffer c g).buffer b = s.buffer b := fun g => buffer_setBuffer_ne _ _ h
  unfold State.postFlush
  simp only []
  split <;> exact (post_buffer ..).trans (mapped _)

theorem sendFlush_buffer_ne (s : State) {b c : BufferId} (h : b ≠ c) (cls : Nat) :
    (s.sendFlush c cls).buffer b = s.buffer b := by
  unfold State.sendFlush
  split
  · rfl
  · exact (postFlush_buffer_ne _ h ..).trans (buffer_setBuffer_ne _ _ h)

theorem beginAttempt_buffer_ne (s : State) {b c : BufferId} (h : b ≠ c) (cls : Nat) :
    (s.beginAttempt c cls).buffer b = s.buffer b := by
  have ended : ∀ t : State, (t.endAttempt c).buffer b = t.buffer b := fun t => by
    have set : ∀ x, (t.setBuffer c x).buffer b = t.buffer b := fun x => buffer_setBuffer_ne _ _ h
    unfold State.endAttempt
    simp only []
    split
    · split
      · exact (sendFlush_buffer_ne _ h 4).trans (set _)
      · exact set _
    · have reported : ∀ x, (t.reportAttempt x).buffer b = t.buffer b := fun x => by
        unfold State.reportAttempt
        split
        · rfl
        · simp only []
          split <;> simp
      exact (buffer_setBuffer_ne _ _ h).trans (reported _)
  unfold State.beginAttempt
  split
  · exact (ended _).trans (buffer_setBuffer_ne _ _ h)
  · exact sendFlush_buffer_ne s h cls

/-- R53: a buffer flushes at a class. -/
def Buffer.sent (x : Buffer) (cls : Nat) : Prop := x.state = .flushing ∧ x.flushClass = some cls

theorem beginAttempt_sent {s : State} {b : BufferId} (h : (s.nextFlushBlock b 0).isSome = true) (cls : Nat) :
    ((s.beginAttempt b cls).buffer b).sent cls := by
  obtain ⟨⟨p, blk⟩, e⟩ := Option.isSome_iff_exists.mp h
  let t := s.mapBuffer b fun x => { x with state := .flushing, flushClass := some cls, attempt := Attempt.none }
  have own : t.buffer b = { s.buffer b with state := .flushing, flushClass := some cls, attempt := Attempt.none } :=
    buffer_setBuffer_self ..
  have posted : ((t.postFlush b p blk).buffer b).state = (t.buffer b).state ∧
      ((t.postFlush b p blk).buffer b).flushClass = (t.buffer b).flushClass := by
    have self : (t.mapBuffer b fun x => { x with block := blk, attempt := { x.attempt with cleared := [] } }).buffer b =
        { t.buffer b with block := blk, attempt := { (t.buffer b).attempt with cleared := [] } } :=
      buffer_setBuffer_self ..
    unfold State.postFlush
    simp only []
    split <;> simp [self]
  have begun : s.beginAttempt b cls = t.postFlush b p blk := by
    simp only [State.beginAttempt, e, State.sendFlush]
    rfl
  rw [begun, Buffer.sent, posted.1, posted.2, own]
  exact ⟨rfl, rfl⟩

/-- R52: a unit's motor has gone to STOPPED, and its DIRTY buffers are to be flushed. -/
def StopFlushes (old s : State) (u : DriveId) : Prop :=
  (old.unit u).motor ≠ .stopped ∧ (s.unit u).motor = .stopped ∧ s.profile.flushOnStop = true

/-- R52: a buffer that the flush on stop looks at is sent at class 4. -/
def flushStopped (u : DriveId) (t : State) (b : BufferId) : State :=
  if (t.buffer b).state = .dirty ∧ (t.buffer b).ofUnit u then t.beginAttempt b 4 else t

theorem flushOnStop_stops {old s : State} {u : DriveId} (h : StopFlushes old s u) :
    State.flushOnStop old s u = bufferIds.foldl (flushStopped u) s := if_pos h

theorem flushOnStop_goesOn {old s : State} {u : DriveId} (h : ¬ StopFlushes old s u) : State.flushOnStop old s u = s :=
  if_neg h

theorem flushStopped_frame (u : DriveId) (t : State) (b : BufferId) : CacheFrame t (flushStopped u t b) :=
  ite_cacheFrame (beginAttempt_frame ..) (.refl t)

theorem flushStopped_tending (u : DriveId) (t : State) (b : BufferId) : Tending t (flushStopped u t b) :=
  .ite (fun dirty => beginAttempt_tending dirty.1 4) fun _ => .refl t

theorem flushStopped_buffer_ne (u : DriveId) (t : State) {b c : BufferId} (h : b ≠ c) :
    (flushStopped u t c).buffer b = t.buffer b := by
  unfold flushStopped
  split
  · exact beginAttempt_buffer_ne t h 4
  · rfl

theorem flushStopped_sent (u : DriveId) {t : State} {b : BufferId} (h : (t.buffer b).sent 4) (c : BufferId) :
    ((flushStopped u t c).buffer b).sent 4 := by
  by_cases e : b = c
  · subst e
    have flushing : ¬ ((t.buffer b).state = .dirty ∧ (t.buffer b).ofUnit u = true) := fun k => by
      rw [h.1] at k
      nomatch k.1
    rw [flushStopped, if_neg flushing]
    exact h
  · rw [flushStopped_buffer_ne u t e]
    exact h

/-- R52, R53: a DIRTY buffer of the unit with a block to write is sent to flush at class 4. -/
theorem foldl_flushStopped_sent {u : DriveId} {b : BufferId} {s : State} (dirty : (s.buffer b).state = .dirty)
    (own : (s.buffer b).ofUnit u = true) (block : (s.nextFlushBlock b 0).isSome = true) (bs : List BufferId)
    (mem : b ∈ bs) : ((bs.foldl (flushStopped u) s).buffer b).sent 4 := by
  induction bs generalizing s with
  | nil => cases mem
  | cons c cs ih =>
    rw [List.foldl_cons]
    by_cases e : b = c
    · subst e
      have sent : ((flushStopped u s b).buffer b).sent 4 := by
        rw [flushStopped, if_pos ⟨dirty, own⟩]
        exact beginAttempt_sent block 4
      exact List.foldlRecOn cs (flushStopped u) (motive := fun t => (t.buffer b).sent 4) sent
        fun t h d _ => flushStopped_sent u h d
    · have same := flushStopped_buffer_ne u s e
      refine ih (by rw [same]; exact dirty) (by rw [same]; exact own) ?_ ((List.mem_cons.mp mem).resolve_left e)
      rw [nextFlushBlock_congr same (flushStopped_frame u s c).span]
      exact block

/-! ### A reaction without an open window -/

/-- R82: with no window open, a reaction changes before the cache's part motors, rotations, the select conflict and the
reports. -/
theorem rotationsFollowed_shut {old s : State} (h : s.wcu.window = none) :
    rotationsFollowed old s =
      { s with
        units := (rotationsFollowed old s).units, conflict := (rotationsFollowed old s).conflict
        link := (rotationsFollowed old s).link } ∧
      ∀ u, (rotationsFollowed old s).unit u =
        ((motorsFollowed old s).unit u).turned (old.rotating u) ((motorsFollowed old s).rotating u) s.now := by
  have motors := (motorsFollowed_frame old s).rest
  have shut : (motorsFollowed old s).wcu.window = none := by rw [motors]; exact h
  have closes : State.closes old (motorsFollowed old s) = false := by rw [State.closes, shut]
  have conflict : ∀ (x : State) (c : Bool), x.followConflict c =
      { x with conflict := (x.followConflict c).conflict, link := (x.followConflict c).link } := fun x c => by
    unfold State.followConflict
    split
    · split
      · rfl
      · unfold State.report; split <;> rfl
    · rfl
  have followed : windowFollowed old s = (motorsFollowed old s).followConflict false := by
    rw [windowFollowed, State.followWindow, closes, shut]
    rfl
  have units : ∀ u, (windowFollowed old s).unit u = (motorsFollowed old s).unit u := fun u => by
    rw [followed]
    exact unit_of_units (followConflict_units ..) u
  have rotation : ∀ (x : State) (u : DriveId),
      State.followRotation old x u = { x with units := (State.followRotation old x u).units } := fun x u => by
    unfold State.followRotation
    split <;> rfl
  refine ⟨?_, fun u => ?_⟩
  · have rest : windowFollowed old s =
        { s with
          units := (windowFollowed old s).units, conflict := (windowFollowed old s).conflict
          link := (windowFollowed old s).link } := by
      rw [followed, conflict, motors]
    unfold rotationsFollowed
    dsimp only [driveIds, List.foldl_cons, List.foldl_nil]
    rw [rotation, rotation (windowFollowed old s) 0, rest]
  · rw [rotationsFollowed_unit, units, rotating_congr (congrArg _ (units u)) (congrArg _ (units u))]

theorem turned_rest (x : UnitState) (a b : Bool) (n : Nat) :
    x.turned a b n =
      { x with bitCount := (x.turned a b n).bitCount, rotationStart := (x.turned a b n).rotationStart } := by
  unfold UnitState.turned
  split <;> rfl

/-- A reaction without an open window leaves of a unit, up to the cache's part, all but its motor and its rotation. -/
theorem rotationsFollowed_shut_unit {old s : State} (h : s.wcu.window = none) (u : DriveId) :
    (rotationsFollowed old s).unit u =
      { s.unit u with
        motor := ((motorsFollowed old s).unit u).motor, spinUpDue := ((motorsFollowed old s).unit u).spinUpDue
        bitCount := ((rotationsFollowed old s).unit u).bitCount
        rotationStart := ((rotationsFollowed old s).unit u).rotationStart } := by
  rw [(rotationsFollowed_shut h).2 u, turned_rest, (motorsFollowed_frame old s).units u]

theorem demand_congr {s t : State} {u : DriveId} (media : (t.unit u).media = (s.unit u).media)
    (motor : (t.unit u).motor = (s.unit u).motor) (key : t.key u = s.key u) (format : t.format u = s.format u) :
    t.demand u = s.demand u := by
  have inside : t.keyInside (s.key u) = s.keyInside (s.key u) := keyInside_congr format
  unfold State.demand
  rw [media, motor, key, inside]

theorem demand_stopped {s : State} {u : DriveId} (h : (s.unit u).motor = .stopped) : s.demand u = none :=
  if_neg fun k => k.2.1 h

/-- After the cache's part a reaction without an edge of WGATE leaves the buffers. -/
theorem react_buffers {old s : State} (gate : ¬ (old.level .wgate = false ∧ s.level .wgate = true)) :
    (react old s).buffers = (cacheFollowed old s).buffers := by
  have rotations : WideFrame s (rotationsFollowed old s) :=
    (windowFollowed_wide old s).trans (foldl_eventFrame _ (followRotation_frame old) driveIds _).wide
  have level : (cacheFollowed old s).level .wgate = s.level .wgate :=
    level_congr ((cacheFollowed_frame old s).profile.trans rotations.profile)
      ((cacheFollowed_frame old s).pins.trans rotations.pins) _
  rw [react_eq, (takeModes_frame old _).rest]
  show (State.followGate old (cacheFollowed old s)).buffers = _
  rw [State.followGate, level, if_neg gate]

/-- R41 to R52: without a new demand key the cache's part of a reaction tends the buffers as the flush on stop left
them. -/
theorem cacheFollowed_tending {old s : State} (n : NoNewDemand old (rotationsFollowed old s)) :
    Tending (driveIds.foldl (State.flushOnStop old) (rotationsFollowed old s)) (cacheFollowed old s) := by
  have flushed := foldl_cacheFrame _ (flushOnStop_frame old) driveIds (rotationsFollowed old s)
  exact ((followDemand_tending (flushed.noNewDemand n)).trans (.foldl (firstArrival_tending old) ..)).trans
    (.foldl (trackMiss_tending old) ..)

/-! ### The stop of a motor -/

theorem drive_eq_other {u v w : DriveId} (h : v ≠ u) (k : w ≠ u) : w = v := by
  revert u v w
  decide

theorem mem_bufferIds (b : BufferId) : b ∈ bufferIds := by
  revert b
  decide

/-- A fold over the units that changes a state for one unit only. -/
theorem foldl_driveIds_one {g : State → DriveId → State} {s : State} {u v : DriveId} (ne : v ≠ u) (before : g s v = s)
    (after : g (g s u) v = g s u) : driveIds.foldl g s = g s u := by
  show g (g s 0) 1 = _
  match u, v with
  | 0, 0 => exact absurd rfl ne
  | 0, 1 => exact after
  | 1, 0 => rw [before]
  | 1, 1 => exact absurd rfl ne

/-- R52: when one unit's motor stops and no window is open, a DIRTY buffer of the unit with a block to write is sent to
flush, at class 4 or, for a demand fill that waits, at class 2. -/
theorem react_flushes {old s : State} {u v : DriveId} {b : BufferId} (ne : v ≠ u) (shut : s.wcu.window = none)
    (gate : ¬ (old.level .wgate = false ∧ s.level .wgate = true))
    (running : (old.unit u).motor ≠ .stopped) (stopped : ((motorsFollowed old s).unit u).motor = .stopped)
    (other : ((motorsFollowed old s).unit v).motor = (old.unit v).motor)
    (demand : (rotationsFollowed old s).demand v = old.demand v)
    (option : s.profile.flushOnStop = true) (dirty : (s.buffer b).state = .dirty)
    (own : (s.buffer b).ofUnit u = true) (block : (s.nextFlushBlock b 0).isSome = true) :
    ((react old s).buffer b).state = .flushing ∧
      (((react old s).buffer b).flushClass = some 4 ∨
        s.cache.waiting ≠ [] ∧ ((react old s).buffer b).flushClass = some 2) := by
  let x := rotationsFollowed old s
  obtain ⟨rest, -⟩ := rotationsFollowed_shut (old := old) shut
  have units := rotationsFollowed_shut_unit (old := old) shut
  have motor : ∀ w, (x.unit w).motor = ((motorsFollowed old s).unit w).motor := fun w => by rw [units w]
  have buffer : x.buffer b = s.buffer b := by
    show (rotationsFollowed old s).buffer b = _
    rw [rest]; rfl
  have cache : x.cache = s.cache := by
    show (rotationsFollowed old s).cache = _
    rw [rest]
  have profile : x.profile = s.profile := by
    show (rotationsFollowed old s).profile = _
    rw [rest]
  have span : ∀ k, x.span k = s.span k := fun k => by
    have tables : (rotationsFollowed old s).slots = s.slots ∧ (rotationsFollowed old s).formats = s.formats := by
      rw [rest]; exact ⟨rfl, rfl⟩
    exact span_congr (by rw [units]) tables.1 tables.2
  have none_ : NoNewDemand old x := fun w => by
    by_cases e : w = u
    · subst e; exact .inr (demand_stopped ((motor w).trans stopped))
    · rw [drive_eq_other ne e]; exact .inl demand
  have stops : StopFlushes old x u := ⟨running, (motor u).trans stopped, by rw [profile]; exact option⟩
  have goesOn : ∀ y : State, CacheFrame x y → ¬ StopFlushes old y v := fun y h k => by
    refine k.1 ?_
    rw [← other, ← motor v, ← h.unit]
    exact k.2.1
  have flushed : driveIds.foldl (State.flushOnStop old) x = bufferIds.foldl (flushStopped u) x := by
    have frame := foldl_cacheFrame _ (flushStopped_frame u) bufferIds x
    have one := flushOnStop_stops stops
    rw [← one] at frame ⊢
    exact foldl_driveIds_one ne (flushOnStop_goesOn (goesOn _ (.refl x))) (flushOnStop_goesOn (goesOn _ frame))
  have sent : ((bufferIds.foldl (flushStopped u) x).buffer b).sent 4 := by
    refine foldl_flushStopped_sent (by rw [buffer]; exact dirty) (by rw [buffer]; exact own) ?_ _ (mem_bufferIds b)
    rw [nextFlushBlock_congr buffer span]
    exact block
  have waiting : (bufferIds.foldl (flushStopped u) x).cache.waiting ≠ [] → s.cache.waiting ≠ [] := fun w e =>
    w ((Tending.foldl (flushStopped_tending u) bufferIds x).waiting (by rw [cache]; exact e))
  have tended := (cacheFollowed_tending none_).buffers b
  rw [flushed] at tended
  obtain ⟨flushing, cls⟩ := tended.flushing sent.1
  have same : (react old s).buffer b = (cacheFollowed old s).buffer b := congrArg (look · b) (react_buffers gate)
  rw [same]
  exact ⟨flushing, cls.imp (·.trans sent.2) (.imp_left waiting)⟩

/-- R82: the window of a unit whose motor has stopped is closed. -/
theorem react_windowOf_stopped {old s : State} {u : DriveId}
    (gate : ¬ (old.level .wgate = false ∧ s.level .wgate = true))
    (stopped : ((motorsFollowed old s).unit u).motor = .stopped) : (react old s).windowOf u = false := by
  obtain shut | ⟨same, open_⟩ := react_window_cases gate
  · rw [State.windowOf, shut]
  · rw [State.windowOf, same]
    have motors : (motorsFollowed old s).wcu = s.wcu := by rw [(motorsFollowed_frame old s).rest]
    cases e : s.wcu.window with
    | none => rfl
    | some w =>
      refine decide_eq_false fun unit => ?_
      rw [State.closes, motors, e] at open_
      simp [unit, stopped] at open_

/-- R41: with no window open, a unit whose motor and head stay keeps its demand key up to the cache's part. -/
theorem rotationsFollowed_demand {old s : State} {v : DriveId} (shut : s.wcu.window = none)
    (motor : ((motorsFollowed old s).unit v).motor = (s.unit v).motor) :
    (rotationsFollowed old s).demand v = s.demand v := by
  obtain ⟨rest, -⟩ := rotationsFollowed_shut (old := old) shut
  have unit := rotationsFollowed_shut_unit (old := old) shut v
  have tables : (rotationsFollowed old s).slots = s.slots ∧ (rotationsFollowed old s).formats = s.formats ∧
      (rotationsFollowed old s).profile = s.profile ∧ (rotationsFollowed old s).pins = s.pins := by
    rw [rest]; exact ⟨rfl, rfl, rfl, rfl⟩
  obtain ⟨slots, formats, profile, pins⟩ := tables
  refine demand_congr (by rw [unit]) (by rw [unit]; exact motor) ?_ (format_congr (by rw [unit]) slots formats)
  have cylinder : ((rotationsFollowed old s).unit v).cylinder = (s.unit v).cylinder := by rw [unit]
  simp only [State.key, State.head, cylinder, level_congr profile pins]

/-! ### The rows -/

theorem motorInput_quiet (u : DriveId) : Input.wgate ≠ motorInput u ∧ Input.side ≠ motorInput u := by
  revert u
  decide

theorem motorInput_pulseless (u : DriveId) : motorInput u ≠ .step ∧ motorInput u ≠ .wdata := by
  revert u
  decide

theorem motorSource_other {s : State} {u v : DriveId} (h : v ≠ u) : s.motorSource v ≠ motorInput u := by
  have select : selectInput v ≠ motorInput u := by revert u v; decide
  have motor : motorInput v ≠ motorInput u := by revert u v; decide
  unfold State.motorSource
  split
  · exact select
  · exact motor

theorem motorSource_own {s : State} {u : DriveId} (h : look s.profile.follows u = false) :
    s.motorSource u = motorInput u :=
  if_neg (Bool.eq_false_iff.mp h)

/-- R108, R116: what a new level of a motor's own pin leaves, and the two motor signals it gives. -/
theorem sample_motorPin {s : State} {u v : DriveId} {p : InPin} (own : OnOwnPin s (motorInput u) p) (n : NoHold s)
    (ne : v ≠ u) (follows : look s.profile.follows u = false) (enabled : s.enabled u = true) (level : Bool) :
    let x : State := { s with pins := pinsWith s.pins p level }
    let t := s.sample (pinsWith s.pins p level)
    (s.setInput (motorInput u) level = t ∧ PinTaken s t p level ∧ t.now = s.now ∧ ManagementSame s t ∧
      (∀ w, HeadSame s t w) ∧ MotorSame s t v ∧ ModesTaken t) ∧
      s.motorOn v = x.motorOn v ∧ s.motorOn u = s.level (motorInput u) ∧ x.motorOn u = level := by
  intro x t
  have other : x.motorOn v = s.motorOn v := motorOn_pinsWith_other own (motorSource_other ne) _ _
  have signal : ∀ y : State, y.profile = s.profile → y.motorOn u = y.level (motorInput u) := fun y e => by
    rw [State.motorOn, State.enabled, motorSource_own (by rw [e]; exact follows), e]
    exact congrArg (· && _) enabled
  exact ⟨⟨setInput_sample own level fun _ => motorInput_pulseless u, sample_pinTaken s p level, sample_now ..,
    sample_management n _, sample_head s _, sample_motor other.symm, sample_modes _ _⟩, other.symm, signal s rfl,
    (signal x rfl).trans (level_pinsWith_own own.1 _ _)⟩

theorem motorRow_eq {s t : State} {u : DriveId} {level : Bool} (follows : look s.profile.follows u = false)
    (input : s.taken.setInput (motorInput u) level = t) (same : ManagementSame s t) :
    s.row (fun x => x.setInput (x.motorSource u) level) = .next t := by
  have source : s.taken.motorSource u = motorInput u := motorSource_own (s := s.taken) follows
  refine congrArg Host.Outcome.next ?_
  show State.followQueue s (s.taken.setInput (s.taken.motorSource u) level) = t
  rw [source, input]
  exact followQueue_same same

/-- R116: the motor signal of a STOPPED unit is asserted. -/
theorem motor_asserted {s : State} {u v : DriveId} {p : InPin} (own : OnOwnPin s (motorInput u) p) (n : NoHold s)
    (ne : v ≠ u) (follows : look s.profile.follows u = false) (enabled : s.enabled u = true)
    (low : s.level (motorInput u) = false) (stopped : (s.unit u).motor = .stopped) :
    let t := s.sample (pinsWith s.pins p true)
    ((t.unit u).motor, (t.unit u).spinUpDue) =
      (if s.profile.spinUp = 0 then (.atSpeed, none)
       else (.spinningUp, some (s.now + s.profile.spinUp * 16000))) := by
  intro t
  obtain ⟨-, -, before, after⟩ := sample_motorPin own n ne follows enabled true
  obtain ⟨-, motor, spinUp⟩ := react_head s { s with pins := pinsWith s.pins p true } u
  rw [show (t.unit u).motor = _ from motor, show (t.unit u).spinUpDue = _ from spinUp, motorsFollowed_unit, before, low,
    after]
  show (UnitState.motor (if (s.unit u).motor = .stopped then _ else _),
    UnitState.spinUpDue (if (s.unit u).motor = .stopped then _ else _)) = _
  rw [if_pos stopped]
  show (UnitState.motor (if s.profile.spinUp = 0 then _ else _),
    UnitState.spinUpDue (if s.profile.spinUp = 0 then _ else _)) = _
  split <;> rfl

section

variable {s : State} {u v : DriveId} {p : InPin} (own : OnOwnPin s (motorInput u) p) (n : NoHold s) (ne : v ≠ u)
  (follows : look s.profile.follows u = false) (enabled : s.enabled u = true) (high : s.level (motorInput u) = true)
include own n ne follows enabled high

/-- R116: the motor signal of a unit is negated. -/
theorem motor_negated :
    let x : State := { s with pins := pinsWith s.pins p false }
    ((motorsFollowed s x).unit u).motor = .stopped ∧ ((react s x).unit u).motor = .stopped ∧
      ((react s x).unit u).spinUpDue = none := by
  intro x
  obtain ⟨-, -, before, after⟩ := sample_motorPin own n ne follows enabled false
  obtain ⟨-, motor, spinUp⟩ := react_head s x u
  rw [motor, spinUp, motorsFollowed_unit, before, high, show x.motorOn u = false from after]
  exact ⟨rfl, rfl, rfl⟩

/-- R52, R66, R82: what the stop of a motor ends, and what it sends to flush. -/
theorem motor_negated_ends :
    let t := s.sample (pinsWith s.pins p false)
    (t.unit u).mode = .quiet ∧ t.windowOf u = false ∧ (s.rotating u = true → (t.unit u).bitCount = 0) ∧
      ∀ b, (s.buffer b).state = .dirty → (s.buffer b).ofUnit u = true → s.profile.flushOnStop = true →
        (s.unit u).motor ≠ .stopped → (s.nextFlushBlock b 0).isSome = true → s.wcu.window = none →
        (t.buffer b).state = .flushing ∧
          ((t.buffer b).flushClass = some 4 ∨ s.cache.waiting ≠ [] ∧ (t.buffer b).flushClass = some 2) := by
  let x : State := { s with pins := pinsWith s.pins p false }
  obtain ⟨followed, stopped, -⟩ := motor_negated own n ne follows enabled high
  have notAtSpeed : ((react s x).unit u).motor ≠ .atSpeed := by rw [stopped]; nofun
  have gate : ¬ (s.level .wgate = false ∧ x.level .wgate = true) := by
    rw [level_pinsWith_other own (motorInput_quiet u).1]
    rintro ⟨off, on⟩
    exact Bool.false_ne_true (off.symm.trans on)
  refine ⟨(sample_modes _ _ u).trans (modeOf_notAtSpeed notAtSpeed), react_windowOf_stopped gate followed,
    fun turning => ?_, fun b dirty ofUnit option running block shut => ?_⟩
  · have held : (react s x).rotating u = false := by
      rw [State.rotating, decide_eq_false notAtSpeed, Bool.false_and]
    exact (react_rotation s x u).1.trans (if_neg (by rw [held, turning]; decide))
  · have signal := (sample_motorPin own n ne follows enabled false).2.1
    have other := congrArg UnitState.motor (motorsFollowed_same s x v signal)
    have demand : x.demand v = s.demand v := by
      refine demand_congr rfl rfl ?_ rfl
      have side : x.level .side = s.level .side := level_pinsWith_other own (motorInput_quiet u).2 s.pins false
      rw [State.key, State.head, side]
      rfl
    have kept : (rotationsFollowed s x).demand v = s.demand v :=
      (rotationsFollowed_demand (old := s) (s := x) shut other).trans demand
    exact react_flushes (old := s) (s := x) ne shut gate running followed other kept option dirty ofUnit block

end

/-- R30, R116: the spin-up timer of a unit ends: its motor comes to AT_SPEED, and its rotation starts. -/
def State.spun (a : State) (u : DriveId) : State := a.setUnit u { a.unit u with motor := .atSpeed, spinUpDue := none }

theorem spun_management (a : State) (u : DriveId) : ManagementSame a (a.spun u) := by
  refine ⟨⟨rfl, rfl, rfl, rfl, rfl, fun w => ?_, rfl, rfl, rfl, rfl, List.prefix_refl _⟩, rfl, rfl⟩
  rw [State.spun, unit_setUnit]
  split
  · rename_i e; rw [e]; exact ⟨rfl, rfl⟩
  · exact ⟨rfl, rfl⟩

theorem spun_head (a : State) (u w : DriveId) : HeadSame a (a.spun u) w := by
  rw [HeadSame, State.spun, unit_setUnit]
  split
  · rename_i e; rw [e]; exact ⟨rfl, rfl, rfl, rfl⟩
  · exact ⟨rfl, rfl, rfl, rfl⟩

/-- R30, R116: the event of a spin-up timer's end, at the clock's moment. -/
theorem spun_event {a : State} (n : NoHold a) {u v : DriveId} (ne : v ≠ u) (spinning : (a.unit u).motor = .spinningUp) :
    let t := a.event fun x => x.spun u
    ManagementSame a t ∧ (∀ w, HeadSame a t w) ∧ MotorSame a t v ∧ ModesTaken t ∧ t.pins = a.pins ∧ t.now = a.now ∧
      (t.unit u).motor = .atSpeed ∧ (t.unit u).spinUpDue = none ∧
      ((a.unit u).media ≠ .empty → (t.unit u).bitCount = 0 ∧ (t.unit u).rotationStart = a.now) := by
  intro t
  have own : (a.spun u).unit u = { a.unit u with motor := .atSpeed, spinUpDue := none } := unit_setUnit_self ..
  have other : (a.spun u).unit v = a.unit v := unit_setUnit_ne _ _ ne
  obtain ⟨management, head, pins, now, -⟩ := react_management a (a.spun u) n
  have same : ManagementSame a t := managementSame_trans (spun_management a u) management
  have motor : ∀ w, MotorSame (a.spun u) t w := fun w => react_motorSame (old := a) (s := a.spun u) rfl
  have atSpeed : (t.unit u).motor = .atSpeed := (motor u).1.trans (by rw [own])
  refine ⟨same, fun w => headSame_trans (spun_head a u w) (head w), ?_, react_modes _ _, pins, now, atSpeed,
    (motor u).2.trans (by rw [own]), fun media => ?_⟩
  · have stays : MotorSame a (a.spun u) v := by rw [MotorSame, other]; exact ⟨rfl, rfl⟩
    exact motorSame_trans stays (motor v)
  · have turns : t.rotating u = true := by
      rw [State.rotating, atSpeed, (managementSame_media same u).1]
      simp [media]
    have stood : a.rotating u = false := by
      rw [State.rotating, spinning]
      rfl
    have rotation := react_rotation a (a.spun u) u
    rw [show (react a (a.spun u)).rotating u = true from turns, stood] at rotation
    exact ⟨rotation.1.trans (if_neg (by decide)), rotation.2.trans (if_pos ⟨rfl, rfl⟩)⟩

/-- Settles O33: a motor pin's new level gives the unit's motor signal an edge and no other motor signal one;
the timer's end is an event that changes one motor. -/
theorem motorsFollow : Obligations.MotorsFollow := by
  intro s u v p n ne still
  refine ⟨fun own follows enabled => ⟨fun low stopped => ?_, fun high => ?_⟩, fun m due spinning => ?_⟩
  · obtain ⟨⟨input, pin, now, management, head, motor, modes⟩, -⟩ :=
      sample_motorPin (s := s.taken) own n ne follows enabled true
    exact ⟨_, motorRow_eq follows input management, pin, ⟨management, head, motor, modes⟩, now,
      motor_asserted (s := s.taken) own n ne follows enabled low stopped⟩
  · obtain ⟨⟨input, pin, now, management, head, motor, modes⟩, -⟩ :=
      sample_motorPin (s := s.taken) own n ne follows enabled false
    obtain ⟨-, stopped, spinUp⟩ := motor_negated (s := s.taken) own n ne follows enabled high
    exact ⟨_, motorRow_eq follows input management, pin, ⟨management, head, motor, modes⟩, now, stopped, spinUp,
      motor_negated_ends (s := s.taken) own n ne follows enabled high⟩
  · let a := s.taken.runTo m
    obtain ⟨headA, motorA, pinsA⟩ := runTo_standsStill s.taken m
    have managementA : ManagementSame s a := runTo_management s.taken m
    have nowA : a.now = max s.now m := runTo_now s.taken m
    obtain ⟨management, head, motor, modes, pins, now, atSpeed, spinUp, rotation⟩ :=
      spun_event (managementSame_noHold managementA n) ne ((motorA u).1.trans spinning)
    have same := managementSame_trans managementA management
    have row : exec (.spinUpExpiry u) s = .next (a.event fun x => x.spun u) := by
      have spun : s.taken.spinUp u = a.event fun x => x.spun u := by
        rw [State.spinUp, show (s.taken.unit u).spinUpDue = some m from due]
        rfl
      exact congrArg Host.Outcome.next ((congrArg (State.followQueue s) spun).trans (followQueue_same same))
    refine ⟨_, row, pins.trans pinsA,
      ⟨same, fun w => headSame_trans (headA w) (head w), motorSame_trans (motorA v) motor, modes⟩, now.trans nowA, atSpeed, spinUp, fun media => ?_⟩
    obtain ⟨bit, start⟩ := rotation (by rw [(managementSame_media managementA u).1]; exact media)
    exact ⟨bit, start.trans nowA⟩

end Sys2Proof.Machine
end

section
/-! PROOFS. O38: the end of a settle (R35, R36, R42, R67). -/

namespace Sys2Proof.Machine

open Sys2Proof.Safety

/-! ### The cache reports nothing while demands stay -/

theorem foldl_link {α : Type} {g : State → α → State} (h : ∀ s x, (g s x).link = s.link) (xs : List α) (s : State) :
    (xs.foldl g s).link = s.link := by
  induction xs generalizing s with
  | nil => rfl
  | cons x xs ih => exact (ih _).trans (h s x)

theorem ite_link {p : Prop} [Decidable p] {s a b : State} (h : a.link = s.link) (k : b.link = s.link) :
    (if p then a else b).link = s.link := by
  split
  · exact h
  · exact k

theorem startFill_link (s : State) (b : BufferId) : (s.startFill b).link = s.link := by
  unfold State.startFill
  split
  · rfl
  · split
    · rfl
    · unfold State.postFill
      split
      · rfl
      · split <;> rfl

theorem allocate_link (s : State) (b : BufferId) (k : Key) (cls : Nat) : (s.allocate b k cls).link = s.link := by
  unfold State.allocate
  split
  · rfl
  · exact startFill_link ..

theorem lowerFill_link (s : State) (b : BufferId) : (s.lowerFill b).link = s.link :=
  ite_link (repost_link (s.mapBuffer b _) ..) rfl

theorem raiseForWaiting_link (s : State) : s.raiseForWaiting.link = s.link :=
  ite_link rfl (foldl_link (fun _ _ => ite_link (ite_link rfl (repost_link (State.mapBuffer ..) ..)) rfl) _ s)

theorem orderStamps_link (old s : State) : (State.orderStamps old s).link = s.link := by
  unfold State.orderStamps
  split
  · exact ite_link rfl rfl
  · rfl

theorem actOnPrediction_link (s : State) (u : DriveId) : (s.actOnPrediction u).link = s.link := by
  unfold State.actOnPrediction
  split
  · rfl
  · refine ite_link ?_ rfl
    split
    · rfl
    · exact allocate_link (s.setPrediction u none) ..

theorem actOnPredictions_link (s : State) : s.actOnPredictions.link = s.link := by
  have both : ∀ u v, ((s.actOnPrediction u).actOnPrediction v).link = s.link := fun u v =>
    (actOnPrediction_link ..).trans (actOnPrediction_link s u)
  unfold State.actOnPredictions
  split
  · exact ite_link (both ..) (both ..)
  · exact both ..

/-- R42: while every demand stays and no demand fill waits, the cache's part of an event reports nothing. -/
theorem followDemand_link {old s : State} (same : ∀ u, s.demand u = old.demand u) (waiting : s.cache.waiting = []) :
    (State.followDemand old s).link = s.link := by
  have ended : driveIds.foldl (State.endDemand old) s = s := foldl_id (fun u => if_pos (same u).symm) _
  have lowered : (bufferIds.foldl State.lowerFill s).link = s.link := foldl_link lowerFill_link _ s
  have idle : (bufferIds.foldl State.lowerFill s).resumeFills = bufferIds.foldl State.lowerFill s := by
    rw [State.resumeFills, (Tending.foldl lowerFill_tending bufferIds s).waiting waiting]
    rfl
  have later : ∀ x : State, ((State.orderStamps old x).raiseForWaiting.actOnPredictions).link = x.link := fun x =>
    ((actOnPredictions_link _).trans (raiseForWaiting_link _)).trans (orderStamps_link old x)
  rw [followDemand_noNew fun u => .inl (same u), ended, idle, ite_self, setCache_link, later]
  exact lowered

/-! ### TRACK_MISS (R42) -/

theorem trackMiss_same {old s : State} {u : DriveId} (h : old.needs u = s.needs u) : State.trackMiss old s u = s :=
    if_pos h

theorem CacheFrame.needs {s t : State} (h : CacheFrame s t) (u : DriveId) : t.needs u = s.needs u := by
  rw [State.needs, h.unit, h.demand, State.needs]

/-- R42: a unit comes to need a key that no resident buffer holds. -/
theorem trackMiss_reports {old s : State} {u : DriveId} {k : Key} (before : old.needs u = none)
    (after : s.needs u = some k) (missing : ∀ b, (s.buffer b).holds k = true → (s.buffer b).state.resident = false)
    (room : s.link.reports.length < 16) :
    ∃ detail, detail ≤ 2 ∧
      (⟨.trackMiss, some k.unit, some k.cylinder, some k.head, none, detail⟩ : Report) ∈
        (State.trackMiss old s u).link.reports := by
  have resident : s.resident k = false := by
    rw [State.resident]
    split
    · rfl
    · rename_i b held
      have holds : (s.buffer b).holds k = true := by simpa using List.find?_some held
      exact missing b holds
  have posted : ∀ d, d ≤ 2 → ∃ detail, detail ≤ 2 ∧
      (⟨.trackMiss, some k.unit, some k.cylinder, some k.head, none, detail⟩ : Report) ∈
        (s.report (.onKey .trackMiss k none d)).link.reports := fun d small =>
    ⟨d, small, by rw [report_reports s _ room]; exact List.mem_append_right _ (.head _)⟩
  unfold State.trackMiss
  rw [before, after, if_neg nofun]
  simp only [resident]
  rw [if_neg Bool.false_ne_true]
  refine posted _ ?_
  split
  · exact Nat.zero_le 2
  · split
    · exact Nat.le_succ 1
    · exact Nat.le_refl 2

/-! ### A reaction to an event that leaves motors, selection and media -/

/-- An event's own change has left the port, the media and the demands, with no window open. -/
structure Calm (old s : State) : Prop where
  shut : s.wcu.window = none
  selected : s.conflict = .conflict ∨ s.selected 0 = false ∨ s.selected 1 = false
  signal : ∀ u, old.motorOn u = s.motorOn u
  motor : ∀ u, (s.unit u).motor = (old.unit u).motor
  rotating : ∀ u, old.rotating u = s.rotating u
  demand : ∀ u, s.demand u = old.demand u

namespace Calm

variable {old s : State} (h : Calm old s)
include h

theorem units (u : DriveId) : (rotationsFollowed old s).unit u = s.unit u := by
  have motors : ∀ w, (motorsFollowed old s).unit w = s.unit w := fun w => motorsFollowed_same old s w (h.signal w)
  rw [(rotationsFollowed_shut h.shut).2 u, motors,
    rotating_congr (congrArg UnitState.motor (motors u)) (congrArg UnitState.media (motors u)), h.rotating u]
  exact if_pos rfl

/-- R112: the select conflict was reported before. -/
theorem link : (rotationsFollowed old s).link = s.link := by
  have motors := (motorsFollowed_frame old s).rest
  have shut : (motorsFollowed old s).wcu.window = none := by rw [motors]; exact h.shut
  have closes : State.closes old (motorsFollowed old s) = false := by rw [State.closes, shut]
  have conflict : ((motorsFollowed old s).followConflict false).link = s.link := by
    have state : (motorsFollowed old s).conflict = s.conflict := by rw [motors]
    have selected : ∀ w, (motorsFollowed old s).selected w = s.selected w := fun w => by rw [motors]; rfl
    have link : (motorsFollowed old s).link = s.link := by rw [motors]
    unfold State.followConflict
    rw [state, selected, selected]
    obtain e | e | e := h.selected
    · rw [e]
      exact ite_link link link
    · rw [e]
      exact link
    · rw [e, Bool.and_false]
      exact link
  have rotation : ∀ (x : State) (u : DriveId), (State.followRotation old x u).link = x.link := fun x u => by
    unfold State.followRotation
    split <;> rfl
  refine (foldl_link rotation driveIds (windowFollowed old s)).trans ?_
  rw [windowFollowed, State.followWindow, closes, shut]
  exact conflict

theorem demands (u : DriveId) : (rotationsFollowed old s).demand u = old.demand u := by
  have same := motorsFollowed_same old s u (h.signal u)
  exact (rotationsFollowed_demand h.shut (congrArg UnitState.motor same)).trans (h.demand u)

/-- R41 to R51: the cache's part of the reaction, up to its TRACK_MISS checks, is that of the demand alone. -/
theorem cacheFollowed_eq :
    cacheFollowed old s =
      driveIds.foldl (State.trackMiss old) (State.followDemand old (rotationsFollowed old s)) := by
  have flush : driveIds.foldl (State.flushOnStop old) (rotationsFollowed old s) = rotationsFollowed old s :=
    foldl_id (fun u => flushOnStop_goesOn fun k => k.1 (by rw [← h.motor u, ← h.units u]; exact k.2.1)) _
  have arrival : driveIds.foldl (State.firstArrival old) (State.followDemand old (rotationsFollowed old s)) =
      State.followDemand old (rotationsFollowed old s) :=
    foldl_id (fun u => if_neg fun k => by
      have unit : (State.followDemand old (rotationsFollowed old s)).unit u = s.unit u :=
        ((followDemand_frame old _).unit u).trans (h.units u)
      have turns := rotating_congr (congrArg UnitState.motor unit) (congrArg UnitState.media unit)
      rw [h.rotating u, turns] at k
      exact Bool.false_ne_true (k.1.symm.trans k.2)) _
  rw [cacheFollowed, flush, arrival]

end Calm

/-- R42: after a calm event one unit comes to need a key that no resident buffer holds. -/
theorem react_trackMiss {old s : State} (h : Calm old s) {u v : DriveId} (ne : v ≠ u) {k : Key}
    (before : old.needs u = none) (after : s.needs u = some k) (other : s.needs v = old.needs v)
    (missing : ∀ b, (s.buffer b).holds k = true → (s.buffer b).state.resident = false)
    (waiting : s.cache.waiting = []) (room : s.link.reports.length < 16) :
    ∃ detail, detail ≤ 2 ∧
      (⟨.trackMiss, some k.unit, some k.cylinder, some k.head, none, detail⟩ : Report) ∈
        (react old s).link.reports := by
  let x := rotationsFollowed old s
  let y := State.followDemand old x
  have rest := (rotationsFollowed_shut (old := old) h.shut).1
  have frame : CacheFrame x y := followDemand_frame old x
  have needs : ∀ w, y.needs w = s.needs w := fun w => by
    rw [frame.needs, State.needs, State.needs, show x.unit w = s.unit w from h.units w,
      show x.demand w = old.demand w from h.demands w, h.demand]
  have buffers : ∀ b, x.buffer b = s.buffer b := fun b => by
    show (rotationsFollowed old s).buffer b = _
    rw [rest]
    rfl
  have cache : x.cache = s.cache := by
    show (rotationsFollowed old s).cache = _
    rw [rest]
  have silent : y.link = s.link := (followDemand_link h.demands (by rw [cache]; exact waiting)).trans h.link
  have tended : Tending x y := followDemand_tending fun w => .inl (h.demands w)
  have still : ∀ b, (y.buffer b).holds k = true → (y.buffer b).state.resident = false := fun b holds => by
    refine Bool.eq_false_iff.mpr fun resident => ?_
    obtain ⟨held, was⟩ := (tended.buffers b).held k holds resident
    rw [buffers] at held was
    exact Bool.false_ne_true ((missing b held).symm.trans was)
  obtain ⟨detail, small, mem⟩ :=
    trackMiss_reports (old := old) before ((needs u).trans after) still (by rw [silent]; exact room)
  have one : cacheFollowed old s = State.trackMiss old y u := by
    rw [h.cacheFollowed_eq]
    refine foldl_driveIds_one ne (trackMiss_same ((needs v).trans other).symm) (trackMiss_same ?_)
    rw [(trackMiss_frame old y u).needs]
    exact ((needs v).trans other).symm
  have later : EventFrame (cacheFollowed old s) (react old s) :=
    (followGate_frame old (cacheFollowed old s)).trans (takeModes_frame old (gateFollowed old s)).event
  rw [one] at later
  exact ⟨detail, small, later.link.reports.subset mem⟩

/-! ### The row -/

/-- R35: a unit's settle ends. -/
def State.calmed (a : State) (u : DriveId) : State := a.setUnit u { a.unit u with settleDue := none }

theorem calmed_unit (a : State) (u w : DriveId) :
    (a.calmed u).unit w = { a.unit w with settleDue := if w = u then none else (a.unit w).settleDue } := by
  rw [State.calmed, unit_setUnit]
  split
  · rename_i e; rw [e]
  · rfl

/-- The event of a settle's end, at the clock's moment. -/
theorem calmed_event {a : State} (n : NoHold a) {u v : DriveId} (ne : v ≠ u) :
    let t := a.event fun x => x.calmed u
    ManagementSame a t ∧ HeadSame a t v ∧ (t.unit u).settleDue = none ∧ (t.unit u).cylinder = (a.unit u).cylinder ∧
      (t.unit u).lastDir = (a.unit u).lastDir ∧ (t.unit u).latch = (a.unit u).latch ∧ (∀ w, MotorSame a t w) ∧
      t.pins = a.pins ∧ t.now = a.now ∧ ModesTaken t := by
  intro t
  have units := calmed_unit a u
  obtain ⟨management, head, pins, now, -⟩ := react_management a (a.calmed u) n
  have before : ManagementSame a (a.calmed u) :=
    ⟨⟨rfl, rfl, rfl, rfl, rfl, fun w => by rw [units]; exact ⟨rfl, rfl⟩, rfl, rfl, rfl, rfl, List.prefix_refl _⟩,
      rfl, rfl⟩
  have motor : ∀ w, MotorSame a t w := fun w => by
    have own : MotorSame a (a.calmed u) w := by rw [MotorSame, units]; exact ⟨rfl, rfl⟩
    exact motorSame_trans own (react_motorSame (old := a) (s := a.calmed u) rfl)
  have other : HeadSame a (a.calmed u) v := by rw [HeadSame, units, if_neg ne]; exact ⟨rfl, rfl, rfl, rfl⟩
  obtain ⟨cylinder, dir, latch, settle⟩ := head u
  rw [units] at cylinder dir latch settle
  exact ⟨managementSame_trans before management, headSame_trans other (head v), settle.trans (if_pos rfl), cylinder,
    dir, latch, motor, pins, now, react_modes _ _⟩

/-- R35: the end of a settle is a calm event. -/
theorem calmed_calm {a : State} {u : DriveId} (shut : a.wcu.window = none)
    (selected : a.conflict = .conflict ∨ a.selected 0 = false ∨ a.selected 1 = false) : Calm a (a.calmed u) where
  shut := shut
  selected := selected
  signal _ := rfl
  motor w := by rw [calmed_unit]
  rotating w := (rotating_congr (by rw [calmed_unit]) (by rw [calmed_unit])).symm
  demand w := by
    refine demand_congr (by rw [calmed_unit]) (by rw [calmed_unit]) ?_ (format_congr (by rw [calmed_unit]) rfl rfl)
    rw [State.key, calmed_unit]
    rfl

/-- R42: the end of a settle at AT_SPEED with a demand key that no resident buffer holds. -/
theorem calmed_trackMiss {a : State} {u v : DriveId} {k : Key} (ne : v ≠ u) (shut : a.wcu.window = none)
    (selected : a.conflict = .conflict ∨ a.selected 0 = false ∨ a.selected 1 = false)
    (settling : (a.unit u).settleDue ≠ none) (demand : a.demand u = some k) (atSpeed : (a.unit u).motor = .atSpeed)
    (waiting : a.cache.waiting = []) (room : a.link.reports.length < 16)
    (missing : ∀ b, (a.buffer b).holds k = true → (a.buffer b).state.resident = false) :
    ∃ detail, detail ≤ 2 ∧
      (⟨.trackMiss, some k.unit, some k.cylinder, some k.head, none, detail⟩ : Report) ∈
        (a.event fun x => x.calmed u).link.reports := by
  have calm : Calm a (a.calmed u) := calmed_calm shut selected
  refine react_trackMiss calm ne (if_neg fun h => settling h.2) ?_ ?_ missing waiting room
  · rw [State.needs, calm.demand, calmed_unit, if_pos rfl, demand]
    exact if_pos ⟨atSpeed, rfl⟩
  · rw [State.needs, calm.demand, calmed_unit, if_neg ne]
    rfl

/-- R82, R112: without the conflict state, one unit is not selected. -/
theorem selected_of_bus {s : State} (h : BusConsistent s) :
    s.conflict = .conflict ∨ s.selected 0 = false ∨ s.selected 1 = false := by
  obtain ⟨conflict, -⟩ := h
  cases e : s.selected 0 with
  | false => exact .inr (.inl rfl)
  | true =>
    cases k : s.selected 1 with
    | false => exact .inr (.inr rfl)
    | true => exact .inl (conflict.mpr ⟨e, k⟩)

/-- Settles O38: the units turn up to the settle's moment, which leaves demands and buffers, and its end is a calm
event. -/
theorem settleEnded : Obligations.SettleEnded := by
  intro s u v ne
  refine ⟨fun idle => ?_, fun m due n bus => ?_⟩
  · have same : s.taken.settled u = s.taken := by
      rw [State.settled, show (s.taken.unit u).settleDue = none from idle]
    have management : ManagementSame s s.taken := (EventFrame.refl s).management
    exact congrArg Host.Outcome.next ((congrArg (State.followQueue s) same).trans (followQueue_same management))
  · let a := s.taken.runTo m
    have turned : TurnFrame { s.taken with now := max s.now m } a := runTo_turnFrame s.taken m
    obtain ⟨headA, motorA, pinsA⟩ := runTo_standsStill s.taken m
    have managementA : ManagementSame s a := runTo_management s.taken m
    obtain ⟨management, other, settle, cylinder, dir, latch, motor, pins, now, modes⟩ :=
      calmed_event (managementSame_noHold managementA n) ne
    have same := managementSame_trans managementA management
    have row : exec (.settleExpiry u) s = .next (a.event fun x => x.calmed u) := by
      have ended : s.taken.settled u = a.event fun x => x.calmed u := by
        rw [State.settled, show (s.taken.unit u).settleDue = some m from due]
        rfl
      exact congrArg Host.Outcome.next ((congrArg (State.followQueue s) ended).trans (followQueue_same same))
    obtain ⟨cylinderA, dirA, latchA, settleA⟩ := headA u
    refine ⟨_, row, settle, now.trans (runTo_now s.taken m), headSame_trans (headA v) other, cylinder.trans cylinderA,
      dir.trans dirA, latch.trans latchA, fun w => motorSame_trans (motorA w) (motor w), pins.trans pinsA, same, modes,
      fun k demand atSpeed shut waiting room missing => ?_⟩
    have rest := turned.rest
    have wcu : a.wcu = s.wcu := by rw [rest]; rfl
    have link : a.link = s.link := by rw [rest]; rfl
    have cache : a.cache = s.cache := by rw [rest]; rfl
    have conflict : a.conflict = s.conflict := by rw [rest]; rfl
    have selected : ∀ w, a.selected w = s.selected w := fun w => by rw [rest]; rfl
    refine calmed_trackMiss ne (by rw [wcu]; exact shut)
      (by rw [conflict, selected, selected]; exact selected_of_bus bus)
      ?_ ((turned.demand u).trans demand) ((motorA u).1.trans atSpeed) (by rw [cache]; exact waiting)
      (by rw [link]; exact room) fun b holds => ?_
    · rw [settleA, show (s.taken.unit u).settleDue = some m from due]
      nofun
    · rw [(turned.buffers b).resident]
      rw [(turned.buffers b).holds] at holds
      exact missing b holds

end Sys2Proof.Machine
end

section
/-! PROOFS. O39: the rotation (R20, R21, R29, R32, R76). -/

namespace Sys2Proof.Machine

open Sys2Proof.Safety

/-! ### One unit's turn leaves the other unit -/

theorem emitBit_other (s : State) {u v : DriveId} (h : v ≠ u) : (s.emitBit u).unit v = s.unit v := by
  unfold State.emitBit
  split
  · rfl
  · simp only []
    split
    · exact unit_setUnit_ne _ _ h
    · split <;> exact unit_setUnit_ne _ _ h

theorem passBits_rest (s : State) (u : DriveId) (n : Nat) :
    s.passBits u n = { s with units := (s.passBits u n).units } ∧ ∀ v, v ≠ u → (s.passBits u n).unit v = s.unit v := by
  unfold State.passBits
  split
  · exact ⟨rfl, fun _ _ => rfl⟩
  · simp only []
    split
    · exact ⟨rfl, fun _ _ => rfl⟩
    · split <;> exact ⟨rfl, fun _ h => unit_setUnit_ne _ _ h⟩

theorem atBit_other (s : State) (f : Format) {u v : DriveId} (h : v ≠ u) (n : Nat) :
    (s.atBit f u n).unit v = s.unit v := by
  have at_n : ((s.passBits u n).setUnit u { (s.passBits u n).unit u with bitCount := n }).unit v = s.unit v :=
    (unit_setUnit_ne _ _ h).trans ((passBits_rest s u n).2 v h)
  unfold State.atBit
  simp only []
  split
  · exact ((retryFill_frame ..).unit v).trans at_n
  · exact at_n

theorem runToBit_other (s : State) {u v : DriveId} (h : v ≠ u) (n : Nat) : (s.runToBit u n).unit v = s.unit v := by
  cases e : s.format u with
  | none => rw [State.runToBit, e]
  | some f =>
    by_cases lt : (s.unit u).bitCount < n
    · rw [runToBit_eq e lt]
      exact (emitBit_other _ h).trans (atBit_other s f h n)
    · rw [State.runToBit, e]
      exact congrArg (State.unit · v) (if_neg lt)

theorem turnTo_other (s : State) {u v : DriveId} (h : v ≠ u) (t : Nat) : (s.turnTo u t).unit v = s.unit v := by
  unfold State.turnTo
  split
  · split
    · rfl
    · exact runToBit_other s h _
  · rfl

theorem atBit_bitCount (s : State) (f : Format) (u : DriveId) (n : Nat) : ((s.atBit f u n).unit u).bitCount = n := by
  have at_n : (((s.passBits u n).setUnit u { (s.passBits u n).unit u with bitCount := n }).unit u).bitCount = n := by
    rw [unit_setUnit_self]
  unfold State.atBit
  simp only []
  split
  · rw [(retryFill_frame ..).unit]
    exact at_n
  · exact at_n

theorem position_eq {s : State} {u : DriveId} {f : Format} (h : s.format u = some f) :
    s.position u = (s.unit u).bitCount % f.revolution := by rw [State.position, h]

/-! ### Index arrivals without a demand key (R49) -/

/-- What a turn of units without a demand key leaves too. -/
def CardSame (s t : State) : Prop := t.buffers = s.buffers ∧ t.card = s.card

theorem CardSame.trans {s t x : State} (h : CardSame s t) (k : CardSame t x) : CardSame s x :=
  ⟨k.1.trans h.1, k.2.trans h.2⟩

theorem emitBit_cardSame (s : State) (u : DriveId) : CardSame s (s.emitBit u) := by
  rw [CardSame, (emitBit_frame s u).rest]
  exact ⟨rfl, rfl⟩

theorem atBit_cardSame {s : State} {u : DriveId} (r : s.rotating u = true) (h : s.demand u = none) (f : Format)
    (n : Nat) :
    CardSame s (s.atBit f u n) := by
  have passed := passBits_turnFrame r n
  let x := (s.passBits u n).setUnit u { (s.passBits u n).unit u with bitCount := n }
  have at_n : TurnFrame s x := passed.trans (setUnit_turnFrame ((passed.rotating u).trans r) ⟨rfl, id⟩)
  have idle : x.retryFill u = x := retryFill_demandless ((at_n.demand u).trans h)
  have rest := (passBits_rest s u n).1
  have same : CardSame s x :=
    ⟨by show (s.passBits u n).buffers = _; rw [rest], by show (s.passBits u n).card = _; rw [rest]⟩
  show CardSame s (if _ then x.retryFill u else x)
  rw [idle, ite_self]
  exact same

theorem runToBit_cardSame {s : State} {u : DriveId} (r : s.rotating u = true) (h : s.demand u = none) (n : Nat) :
    CardSame s (s.runToBit u n) := by
  cases e : s.format u with
  | none => rw [State.runToBit, e]; exact ⟨rfl, rfl⟩
  | some f =>
    by_cases lt : (s.unit u).bitCount < n
    · rw [runToBit_eq e lt]
      exact (atBit_cardSame r h f n).trans (emitBit_cardSame _ u)
    · have same : s.runToBit u n = s := by rw [State.runToBit, e]; exact if_neg lt
      rw [same]
      exact ⟨rfl, rfl⟩

theorem turnTo_cardSame {s : State} {u : DriveId} (h : s.demand u = none ∨ s.rotating u = false) (t : Nat) :
    CardSame s (s.turnTo u t) := by
  cases r : s.rotating u with
  | false => rw [turnTo_still s u t r]; exact ⟨rfl, rfl⟩
  | true =>
    have demandless : s.demand u = none := h.resolve_right (by rw [r]; decide)
    rw [State.turnTo, r, if_pos rfl]
    split
    · exact ⟨rfl, rfl⟩
    · exact runToBit_cardSame r demandless _

/-! ### A unit comes to a moment (R20) -/

/-- R20: a turning unit that follows the clock has come to the last bit begun. -/
theorem turnTo_unitTurned (s : State) (u : DriveId) : UnitTurned s (s.turnTo u s.now) u := by
  have frame := turnTo_turnFrame s u s.now
  have now : (s.turnTo u s.now).now = s.now := by rw [frame.rest]
  refine ⟨frame.still u, fun f r h rate started => ?_⟩
  rw [now] at started ⊢
  have begun := bitTick_le_iff f rate
  rw [Turned, turnTo_bitCount s u s.now r h]
  refine ⟨by rw [(frame.units u).rest], Nat.le_max_left .., fun ahead => ?_, ?_⟩
  · have last : max (s.unit u).bitCount (f.bitBegun (s.now - (s.unit u).rotationStart)) =
        f.bitBegun (s.now - (s.unit u).rotationStart) := by omega
    have tick := (begun _ (s.now - (s.unit u).rotationStart)).mpr (Nat.le_of_eq last)
    rw [Format.bitTick] at tick
    omega
  · have later : ¬ max (s.unit u).bitCount (f.bitBegun (s.now - (s.unit u).rotationStart)) + 1 ≤
        f.bitBegun (s.now - (s.unit u).rotationStart) := by omega
    have tick := mt (begun _ _).mp later
    rw [Format.bitTick] at tick
    omega

theorem unitTurned_congr {s t s' t' : State} {u : DriveId} (h : UnitTurned s t u)
    (rotating : s'.rotating u = s.rotating u) (format : s'.format u = s.format u) (before : s'.unit u = s.unit u)
    (after : t'.unit u = t.unit u) (now : t'.now = t.now) : UnitTurned s' t' u := by
  rw [UnitTurned, rotating, format, before, after, now]
  exact h

/-- R20: both units follow the clock. -/
theorem turnBoth_unitTurned (s : State) {u v : DriveId} (ne : v ≠ u) (w : DriveId) :
    UnitTurned s ((s.turnTo u s.now).turnTo v s.now) w := by
  have first := turnTo_turnFrame s u s.now
  have now : (s.turnTo u s.now).now = s.now := by rw [first.rest]
  have second := turnTo_turnFrame (s.turnTo u s.now) v s.now
  by_cases e : w = u
  · subst e
    exact unitTurned_congr (turnTo_unitTurned s w) rfl rfl rfl (turnTo_other _ ne.symm _) (by rw [second.rest])
  · rw [drive_eq_other ne e]
    have turned := turnTo_unitTurned (s.turnTo u s.now) v
    rw [now] at turned
    exact unitTurned_congr turned (first.rotating v).symm (first.format v).symm (turnTo_other s ne _).symm rfl rfl

theorem turnBoth_cardSame {s : State} {u v : DriveId} (hu : s.demand u = none ∨ s.rotating u = false)
    (hv : s.demand v = none ∨ s.rotating v = false) (t : Nat) : CardSame s ((s.turnTo u t).turnTo v t) := by
  have first := turnTo_turnFrame s u t
  refine (turnTo_cardSame hu t).trans (turnTo_cardSame ?_ t)
  rw [first.demand, first.rotating]
  exact hv

theorem runTo_cases (s : State) (m : Nat) :
    ∃ u v, v ≠ u ∧ s.runTo m =
      (State.turnTo { s with now := max s.now m } u (max s.now m)).turnTo v (max s.now m) := by
  unfold State.runTo
  simp only []
  split
  · exact ⟨1, 0, by decide, rfl⟩
  · exact ⟨0, 1, by decide, rfl⟩

/-! ### The next bit of a unit -/

theorem otherUnit_eq {u v : DriveId} (h : v ≠ u) : otherUnit u = v := by
  revert u v
  decide

theorem otherUnit_ne (u : DriveId) : u ≠ otherUnit u := by
  revert u
  decide

/-- R20: a turning unit has come to a bit that begins now, and the other one to the last bit begun. -/
structure BitBegins (s t : State) (u v : DriveId) (f : Format) (n : Nat) : Prop where
  frame : TurnFrame { s with now := max s.now ((s.unit u).rotationStart + f.bitTick n) } t
  bit : (t.unit u).bitCount = n
  other : UnitTurned s t v
  card : s.demand u = none → s.demand v = none ∨ s.rotating v = false → CardSame s t

theorem beginBit_begins {s : State} {u v : DriveId} {f : Format} {n : Nat} (ne : v ≠ u) (r : s.rotating u = true)
    (h : s.format u = some f) (lt : (s.unit u).bitCount < n) : BitBegins s (s.beginBit u n) u v f n := by
  let m := max s.now ((s.unit u).rotationStart + f.bitTick n)
  let x : State := { s with now := m }
  have begun : s.beginBit u n = (x.turnTo v m).runToBit u n := by
    rw [State.beginBit, h, otherUnit_eq ne]
  have first : TurnFrame x (x.turnTo v m) := turnTo_turnFrame x v m
  have turns : (x.turnTo v m).rotating u = true := (first.rotating u).trans r
  have second := runToBit_turnFrame turns n
  have unit : (x.turnTo v m).unit u = s.unit u := turnTo_other x ne.symm m
  rw [begun]
  refine ⟨first.trans second, ?_, ?_, fun du dv => ?_⟩
  · rw [runToBit_bitCount _ u n ((first.format u).trans h), unit]
    omega
  · exact unitTurned_congr (turnTo_unitTurned x v) rfl rfl rfl (runToBit_other _ ne n) (by rw [second.rest])
  · exact (turnTo_cardSame (s := x) dv m).trans (runToBit_cardSame turns ((first.demand u).trans du) n)

/-- R67, R76: at a byte boundary no resume hold stands after the bit. -/
theorem emitBit_hold {s : State} {u : DriveId} {f : Format} (h : s.format u = some f) (byte : s.position u % 8 = 0) :
    ((s.emitBit u).unit u).hold = false := by
  unfold State.emitBit
  rw [h]
  simp only []
  split
  · rw [unit_setUnit_self]
  · rw [if_neg fun k => k.2 byte, unit_setUnit_self]

theorem beginBit_hold {s : State} {u : DriveId} {f : Format} {n : Nat} (r : s.rotating u = true)
    (h : s.format u = some f) (lt : (s.unit u).bitCount < n) (byte : n % f.revolution % 8 = 0) :
    ((s.beginBit u n).unit u).hold = false := by
  let m := max s.now ((s.unit u).rotationStart + f.bitTick n)
  let x : State := { s with now := m }
  have ne : u ≠ otherUnit u := otherUnit_ne u
  have first : TurnFrame x (x.turnTo (otherUnit u) m) := turnTo_turnFrame x (otherUnit u) m
  have format := (first.format u).trans h
  have begun : s.beginBit u n = (x.turnTo (otherUnit u) m).runToBit u n := by rw [State.beginBit, h]
  have unit : (x.turnTo (otherUnit u) m).unit u = s.unit u := turnTo_other x ne m
  have turned := atBit_turnFrame ((first.rotating u).trans r) f n
  rw [begun, runToBit_eq format (by rw [unit]; exact lt)]
  refine emitBit_hold ((turned.format u).trans format) ?_
  rw [position_eq ((turned.format u).trans format), atBit_bitCount]
  exact byte

/-! ### The bits that the rows begin -/

/-- R76: the next byte boundary is one, and is ahead. -/
theorem nextBoundary_spec (f : Format) (n : Nat) (pos : 0 < f.revolution) :
    nextBoundary f n = n / f.revolution * f.revolution + min f.revolution (8 * (n % f.revolution / 8 + 1)) ∧
      n < nextBoundary f n ∧ nextBoundary f n % f.revolution % 8 = 0 := by
  have whole : n - n % f.revolution = n / f.revolution * f.revolution := by
    have := Nat.div_add_mod' n f.revolution
    omega
  have inside := Nat.mod_lt n pos
  have split := Nat.div_add_mod' n f.revolution
  have form : nextBoundary f n =
      n / f.revolution * f.revolution + min f.revolution (8 * (n % f.revolution / 8 + 1)) := by
    rw [← whole]
    rfl
  refine ⟨form, by omega, ?_⟩
  rw [form, Nat.mul_add_mod']
  by_cases last : f.revolution ≤ 8 * (n % f.revolution / 8 + 1)
  · rw [Nat.min_eq_left last, Nat.mod_self]
  · have short : 8 * (n % f.revolution / 8 + 1) < f.revolution := Nat.lt_of_not_le last
    rw [Nat.min_eq_right (Nat.le_of_lt short), Nat.mod_eq_of_lt short]
    exact Nat.mul_mod_right ..

theorem lt_nextRevolution (n l : Nat) (pos : 0 < l) : n < (n / l + 1) * l := by
  have := Nat.div_add_mod' n l
  have := Nat.mod_lt n pos
  rw [Nat.add_mul]
  omega

theorem lt_indexEnd {n l m : Nat} (h : n % l < m) : n < n / l * l + m := by
  have := Nat.div_add_mod' n l
  omega

/-! ### The rows -/

/-- Settles O39: each row of the rotation begins a later bit of the unit, and the clock's moment brings the other one to
the last bit begun. -/
theorem rotationAdvanced : Obligations.RotationAdvanced := by
  refine ⟨fun s u v f ne => ⟨fun r h pos => ?_, fun r i mem => ?_⟩, fun s m => ?_⟩
  · have moves : ∀ (i : Instr) (n : Nat), exec i s = .next (s.taken.beginBit u n) → (s.unit u).bitCount < n →
        (i = .resumeHoldEnd u → n % f.revolution % 8 = 0) →
        ∃ t, exec i s = .next t ∧ (t.unit u).bitCount = n ∧ (t.unit u).rotationStart = (s.unit u).rotationStart ∧
          t.now = max s.now ((s.unit u).rotationStart + n * 16000000 / (f.rate * 1000)) ∧ UnitTurned s t v ∧
          ManagementSame s t ∧ (∀ w, HeadSame s t w ∧ MotorSame s t w ∧ (t.unit w).mode = (s.unit w).mode) ∧
          t.pins = s.pins ∧ t.wcu = s.wcu ∧ t.cache = s.cache ∧ t.link = s.link ∧
          (s.demand u = none → s.demand v = none ∨ s.rotating v = false → t.buffers = s.buffers ∧ t.card = s.card) ∧
          (i = .resumeHoldEnd u → (t.unit u).hold = false) := fun i n row lt byte => by
      obtain ⟨frame, bit, other, card⟩ := beginBit_begins (s := s.taken) ne r h lt
      have rest := frame.rest
      have unit := fun w => (frame.units w).rest
      refine ⟨_, row, bit, by rw [unit u]; rfl, by rw [rest]; rfl, other, (beginBit_frame s.taken u n h).management,
        fun w => ⟨?_, ?_, by rw [unit w]; rfl⟩, by rw [rest]; rfl, by rw [rest]; rfl, by rw [rest]; rfl,
        by rw [rest]; rfl, card, fun e => beginBit_hold (s := s.taken) r h lt (byte e)⟩
      · rw [HeadSame, unit w]; exact ⟨rfl, rfl, rfl, rfl⟩
      · rw [MotorSame, unit w]; exact ⟨rfl, rfl⟩
    have format : s.taken.format u = some f := h
    have turning : s.taken.rotating u = true := r
    obtain ⟨boundary, ahead, byte⟩ := nextBoundary_spec f (s.unit u).bitCount pos
    refine ⟨moves _ _ ?_ (Nat.lt_succ_self _) nofun, moves _ _ ?_ (lt_nextRevolution _ _ pos) nofun,
      fun region => moves _ _ ?_ (lt_indexEnd region) nofun, fun hold => ?_⟩
    · exact congrArg Host.Outcome.next (if_pos r)
    · refine congrArg Host.Outcome.next ((if_pos r).trans ?_)
      rw [State.closeRevolution, format]
      rfl
    · have inside : (s.rotating u && s.inIndexRegion u) = true := by
        rw [r, State.inIndexRegion, h, position_eq h]
        exact decide_eq_true region
      refine congrArg Host.Outcome.next ((if_pos inside).trans ?_)
      rw [State.leaveIndex, format]
      rfl
    · have held : (s.rotating u && (s.unit u).hold) = true := by rw [r, hold]; rfl
      rw [boundary] at ahead byte
      refine moves _ _ (congrArg Host.Outcome.next ((if_pos held).trans ?_)) ahead fun _ => byte
      rw [State.resume, format]
      exact congrArg (s.taken.beginBit u) boundary
  · have idle : ∀ p : Bool, ¬ (s.rotating u && p) = true := fun p => by rw [r]; exact Bool.false_ne_true
    simp only [List.mem_cons, List.not_mem_nil, or_false] at mem
    obtain rfl | rfl | rfl | rfl := mem
    · exact congrArg Host.Outcome.next (if_neg (by rw [r]; decide))
    · exact congrArg Host.Outcome.next (if_neg (by rw [r]; decide))
    · exact congrArg Host.Outcome.next (if_neg (idle _))
    · exact congrArg Host.Outcome.next (if_neg (idle _))
  · have frame := runTo_turnFrame s m
    obtain ⟨p, q, ne, e⟩ := runTo_cases s m
    refine ⟨frame.rest, fun u => ⟨?_, ?_, ?_, ?_⟩, fun demandless => ?_⟩
    · rw [e]
      exact turnBoth_unitTurned { s with now := max s.now m } ne u
    · rw [HeadSame, (frame.units u).rest]; exact ⟨rfl, rfl, rfl, rfl⟩
    · rw [MotorSame, (frame.units u).rest]; exact ⟨rfl, rfl⟩
    · rw [(frame.units u).rest]; exact ⟨rfl, rfl, rfl⟩
    · rw [e]
      exact turnBoth_cardSame (s := { s with now := max s.now m }) (demandless p) (demandless q) _

end Sys2Proof.Machine
end

section
/-! PROOFS. O40: a bit of the read stream (R22 to R24, R65, R68 to R73, R76). -/

namespace Sys2Proof.Machine

open Sys2Proof.Safety

/-! ### A sector block (R22 to R24) -/

/-- R22 to R24: the byte of a sector block at an offset, with the field under the head as it was taken. -/
def Format.blockByte (f : Format) (taken : List Byte) (o : Nat) : TrackByte :=
  if o < f.sync then .plain 0
  else if o < f.idOffset then markByteAt f.enc 0xA1 0xFE (o - f.sync)
  else if o < f.idOffset + 6 then .plain (taken.getD (o - f.idOffset) 0)
  else if o < f.dataSyncOffset then .plain f.gap
  else if o < f.dataMarkOffset then .plain 0
  else if o < f.dataOffset then markByteAt f.enc 0xA1 0xFB (o - f.dataMarkOffset)
  else if o < f.dataOffset + f.size + 2 then .plain (taken.getD (o - f.dataOffset) 0)
  else .plain f.gap

/-- An offset in a sector block of a track. -/
theorem block_place {f : Format} {k o : Nat} (hk : k < f.sectors) (ho : o < f.blockLen) :
    let j := f.prefixLen + k * f.blockLen + o
    ¬ f.content ≤ j ∧ ¬ j < f.prefixLen ∧ (j - f.prefixLen) / f.blockLen = k ∧ (j - f.prefixLen) % f.blockLen = o := by
  intro j
  have last : k * f.blockLen + f.blockLen ≤ f.sectors * f.blockLen := by
    rw [← Nat.succ_mul]; exact Nat.mul_le_mul_right _ hk
  have inside : j - f.prefixLen = k * f.blockLen + o := by omega
  refine ⟨by rw [Format.content]; omega, by omega, ?_, ?_⟩
  · rw [inside, Nat.mul_comm, Nat.mul_add_div (by omega), Nat.div_eq_of_lt ho, Nat.add_zero]
  · rw [inside, Nat.mul_add_mod', Nat.mod_eq_of_lt ho]

theorem trackByteAt_block {f : Format} (taken : List Byte) {k o : Nat} (hk : k < f.sectors) (ho : o < f.blockLen) :
    trackByteAt f taken (f.prefixLen + k * f.blockLen + o) = f.blockByte taken o := by
  obtain ⟨before, after, -, offset⟩ := block_place hk ho
  rw [trackByteAt, if_neg before, if_neg after]
  simp only [offset]
  rfl

section
variable (f : Format) (taken : List Byte) (i : Nat)

theorem blockByte_idSync (h : i < f.sync) : f.blockByte taken i = ⟨0, false⟩ := if_pos h

theorem blockByte_idMark (h : i < f.mark) : f.blockByte taken (f.sync + i) = markByteAt f.enc 0xA1 0xFE i := by
  rw [Format.blockByte, Format.idOffset, if_neg (by omega), if_pos (by omega), Nat.add_sub_cancel_left]

theorem blockByte_id (h : i < 6) : f.blockByte taken (f.sync + f.mark + i) = ⟨taken.getD i 0, false⟩ := by
  rw [Format.blockByte, Format.idOffset, if_neg (by omega), if_neg (by omega), if_pos (by omega),
    Nat.add_sub_cancel_left]
  rfl

theorem blockByte_idGap (h : i < f.idGap) : f.blockByte taken (f.sync + f.mark + 6 + i) = ⟨f.gap, false⟩ := by
  rw [Format.blockByte, Format.dataSyncOffset, Format.idOffset, if_neg (by omega), if_neg (by omega), if_neg (by omega),
    if_pos (by omega)]
  rfl

theorem blockByte_dataSync (h : i < f.sync) :
    f.blockByte taken (f.sync + f.mark + 6 + f.idGap + i) = ⟨0, false⟩ := by
  rw [Format.blockByte, Format.dataMarkOffset, Format.dataSyncOffset, Format.idOffset, if_neg (by omega),
    if_neg (by omega), if_neg (by omega), if_neg (by omega), if_pos (by omega)]
  rfl

theorem blockByte_dataMark (h : i < f.mark) :
    f.blockByte taken (2 * f.sync + f.mark + 6 + f.idGap + i) = markByteAt f.enc 0xA1 0xFB i := by
  rw [Format.blockByte, Format.dataOffset, Format.dataMarkOffset, Format.dataSyncOffset, Format.idOffset,
    if_neg (by omega), if_neg (by omega), if_neg (by omega), if_neg (by omega), if_neg (by omega), if_pos (by omega)]
  congr 1
  omega

theorem blockByte_data (h : i < f.size + 2) :
    f.blockByte taken (2 * f.sync + 2 * f.mark + 6 + f.idGap + i) = ⟨taken.getD i 0, false⟩ := by
  rw [Format.blockByte, Format.dataOffset, Format.dataMarkOffset, Format.dataSyncOffset, Format.idOffset,
    if_neg (by omega), if_neg (by omega), if_neg (by omega), if_neg (by omega), if_neg (by omega), if_neg (by omega),
    if_pos (by omega)]
  have place : 2 * f.sync + 2 * f.mark + 6 + f.idGap + i - (f.sync + f.mark + 6 + f.idGap + f.sync + f.mark) = i := by
    omega
  rw [place]
  rfl

theorem blockByte_sectorGap :
    f.blockByte taken (2 * f.sync + 2 * f.mark + 6 + f.idGap + f.size + 2 + i) = ⟨f.gap, false⟩ := by
  rw [Format.blockByte, Format.dataOffset, Format.dataMarkOffset, Format.dataSyncOffset, Format.idOffset,
    if_neg (by omega), if_neg (by omega), if_neg (by omega), if_neg (by omega), if_neg (by omega), if_neg (by omega),
    if_neg (by omega)]
  rfl

end

theorem sync_eq (f : Format) : f.sync = if f.enc = .mfm then 12 else 6 := by
  rw [Format.sync]
  cases f.enc <;> rfl

theorem mark_eq (f : Format) : f.mark = if f.enc = .mfm then 4 else 1 := by
  rw [Format.mark]
  cases f.enc <;> rfl

theorem idGap_eq (f : Format) : f.idGap = if f.enc = .mfm then 22 else 11 := by
  rw [Format.idGap]
  cases f.enc <;> rfl

/-- R22, R23: the bytes of a field's mark. -/
theorem markByteAt_eq {f : Format} {i : Nat} (final : Byte) (h : i < f.mark) :
    some (markByteAt f.enc 0xA1 final i) =
      (if f.enc = .mfm then [⟨0xA1, true⟩, ⟨0xA1, true⟩, ⟨0xA1, true⟩, ⟨final, false⟩] else [⟨final, true⟩] :
        List TrackByte)[i]? := by
  rw [mark_eq] at h
  revert h
  cases f.enc with
  | mfm =>
    intro h
    match i, h with
    | 0, _ => rfl
    | 1, _ => rfl
    | 2, _ => rfl
    | 3, _ => rfl
  | fm =>
    intro h
    match i, h with
    | 0, _ => rfl

/-- R22 to R24: the bytes of a sector block, part by part. -/
theorem sectorBlock_bytes (f : Format) (taken : List Byte) {k : Nat} (hk : k < f.sectors) (i : Nat) :
    let at_ := fun j : Nat => trackByteAt f taken (f.prefixLen + k * f.blockLen + j)
    (i < f.sync → at_ i = ⟨0, false⟩) ∧
    (i < f.mark → at_ (f.sync + i) = markByteAt f.enc 0xA1 0xFE i) ∧
    (i < 6 → at_ (f.sync + f.mark + i) = ⟨taken.getD i 0, false⟩) ∧
    (i < f.idGap → at_ (f.sync + f.mark + 6 + i) = ⟨f.gap, false⟩) ∧
    (i < f.sync → at_ (f.sync + f.mark + 6 + f.idGap + i) = ⟨0, false⟩) ∧
    (i < f.mark → at_ (2 * f.sync + f.mark + 6 + f.idGap + i) = markByteAt f.enc 0xA1 0xFB i) ∧
    (i < f.size + 2 → at_ (2 * f.sync + 2 * f.mark + 6 + f.idGap + i) = ⟨taken.getD i 0, false⟩) ∧
    (i < f.sectorGap → at_ (2 * f.sync + 2 * f.mark + 6 + f.idGap + f.size + 2 + i) = ⟨f.gap, false⟩) := by
  intro at_
  have length : f.blockLen = 2 * f.sync + 2 * f.mark + 6 + f.idGap + f.size + 2 + f.sectorGap := by
    simp only [Format.blockLen, Format.overhead, Format.sync, Format.mark, Format.idGap]
    cases f.enc <;> simp only [] <;> omega
  have block : ∀ o, o < f.blockLen → at_ o = f.blockByte taken o := fun o ho => trackByteAt_block taken hk ho
  refine ⟨fun h => ?_, fun h => ?_, fun h => ?_, fun h => ?_, fun h => ?_, fun h => ?_, fun h => ?_, fun h => ?_⟩
  · exact (block _ (by omega)).trans (blockByte_idSync f taken i h)
  · exact (block _ (by omega)).trans (blockByte_idMark f taken i h)
  · exact (block _ (by omega)).trans (blockByte_id f taken i h)
  · exact (block _ (by omega)).trans (blockByte_idGap f taken i h)
  · exact (block _ (by omega)).trans (blockByte_dataSync f taken i h)
  · exact (block _ (by omega)).trans (blockByte_dataMark f taken i h)
  · exact (block _ (by omega)).trans (blockByte_data f taken i h)
  · exact (block _ (by omega)).trans (blockByte_sectorGap f taken i)

/-- R4: the fields and marks of a sector block are its overhead and its data. -/
theorem dataOffset_add (f : Format) : f.dataOffset + 2 = f.overhead := by
  simp only [Format.dataOffset, Format.dataMarkOffset, Format.dataSyncOffset, Format.idOffset, Format.sync, Format.mark,
    Format.idGap, Format.overhead]
  cases f.enc <;> rfl

section
variable {f : Format} {k j : Nat} (key : Key) (es : List Entry) (hk : k < f.sectors)
include hk

/-- R70: between its mark and the end of its check value the ID field of slot `k` is under the head. -/
theorem fieldAt_id (low : f.prefixLen + k * f.blockLen + f.sync ≤ j)
    (high : j < f.prefixLen + k * f.blockLen + f.sync + f.mark + 6) :
    fieldAt f key es j = some (idField f key es k, j == f.prefixLen + k * f.blockLen + f.sync) := by
  obtain ⟨o, rfl⟩ := Nat.exists_eq_add_of_le (show f.prefixLen + k * f.blockLen ≤ j by omega)
  have fits := dataOffset_add f
  have order : f.idOffset + 6 ≤ f.dataOffset := by
    simp only [Format.dataOffset, Format.dataMarkOffset, Format.dataSyncOffset]; omega
  have ho : o < f.blockLen := by
    simp only [Format.blockLen, Format.idOffset] at *; omega
  obtain ⟨before, after, slot, offset⟩ := block_place hk ho
  have inside : f.sync ≤ o ∧ o < f.idOffset + 6 := by rw [Format.idOffset]; omega
  have start : (o == f.sync) = (f.prefixLen + k * f.blockLen + o == f.prefixLen + k * f.blockLen + f.sync) := by
    rw [Bool.eq_iff_iff, beq_iff_eq, beq_iff_eq]; omega
  rw [fieldAt, if_neg (by rintro (h | h); exacts [after h, before h])]
  simp only [slot, offset]
  rw [if_pos inside, start]

/-- R70: between its mark and the end of its check value the data field of slot `k` is under the head. -/
theorem fieldAt_data (low : f.prefixLen + k * f.blockLen + f.dataMarkOffset ≤ j)
    (high : j < f.prefixLen + k * f.blockLen + f.dataMarkOffset + f.mark + f.size + 2) :
    fieldAt f key es j = some (dataField es k, j == f.prefixLen + k * f.blockLen + f.dataMarkOffset) := by
  obtain ⟨o, rfl⟩ := Nat.exists_eq_add_of_le (show f.prefixLen + k * f.blockLen ≤ j by omega)
  have fits := dataOffset_add f
  have order : f.idOffset + 6 ≤ f.dataMarkOffset := by
    simp only [Format.dataMarkOffset, Format.dataSyncOffset]; omega
  have ho : o < f.blockLen := by
    simp only [Format.blockLen, Format.dataOffset] at *; omega
  obtain ⟨before, after, slot, offset⟩ := block_place hk ho
  have outside : ¬ (f.sync ≤ o ∧ o < f.idOffset + 6) := by omega
  have inside : f.dataMarkOffset ≤ o ∧ o < f.dataOffset + f.size + 2 := by rw [Format.dataOffset]; omega
  have start : (o == f.dataMarkOffset) =
      (f.prefixLen + k * f.blockLen + o == f.prefixLen + k * f.blockLen + f.dataMarkOffset) := by
    rw [Bool.eq_iff_iff, beq_iff_eq, beq_iff_eq]; omega
  rw [fieldAt, if_neg (by rintro (h | h); exacts [after h, before h])]
  simp only [slot, offset]
  rw [if_neg outside, if_pos inside, start]

end

/-! ### The field under the head (R69, R70) -/

theorem entriesOf_held {s : State} {k : Key} {b : BufferId} (h : s.holder k = some b) :
    s.entriesOf k = (s.buffer b).entries := by rw [State.entriesOf, h]

theorem takenAt_field {s : State} {f : Format} {u : DriveId} {j : Nat} {x : Field} {start : Bool} (resumed : Bool)
    (h : fieldAt f (s.key u) (s.entriesOf (s.key u)) j = some (x, start)) :
    s.takenAt f u j resumed = if start || resumed then x.emitted f.enc else (s.unit u).taken := by
  rw [State.takenAt, h]

/-! ### One bit -/

/-- R20, R68: the next bit of a turning unit is emitted from a state whose keys, holders and entries are those of
before. -/
theorem advanceBit_emits {s : State} {u : DriveId} {f : Format} (r : s.rotating u = true) (h : s.format u = some f) :
    ∃ z : State, s.advanceBit u = z.emitBit u ∧ z.unit u = { s.unit u with bitCount := (s.unit u).bitCount + 1 } ∧
      z.format u = some f ∧ z.key u = s.key u ∧ z.entriesOf (s.key u) = s.entriesOf (s.key u) := by
  let n := (s.unit u).bitCount + 1
  let m := max s.now ((s.unit u).rotationStart + f.bitTick n)
  let x : State := { s with now := m }
  let y := x.turnTo (otherUnit u) m
  have first : TurnFrame x y := turnTo_turnFrame x (otherUnit u) m
  have format : y.format u = some f := (first.format u).trans h
  have unit : y.unit u = s.unit u := turnTo_other x (otherUnit_ne u) m
  have frame := first.trans (atBit_turnFrame ((first.rotating u).trans r) f n)
  have begun : s.advanceBit u = y.runToBit u n := by rw [State.advanceBit, State.beginBit, h]
  have passed : y.passBits u n = y := by
    rw [State.passBits, format]
    exact if_pos (by rw [unit]; exact Nat.le_refl _)
  refine ⟨y.atBit f u n, ?_, ?_, (frame.format u).trans h, frame.key u, frame.entriesOf _⟩
  · rw [begun, runToBit_eq format (by rw [unit]; exact Nat.lt_succ_self _)]
  · have at_n : (y.setUnit u { y.unit u with bitCount := n }).unit u = { s.unit u with bitCount := n } := by
      rw [unit_setUnit_self, unit]
    unfold State.atBit
    simp only [passed]
    split
    · exact ((retryFill_frame ..).unit u).trans at_n
    · exact at_n

/-- R65, R67: in QUIET the bit is silence. -/
theorem emitBit_quiet {s : State} {u : DriveId} {f : Format} (h : s.format u = some f)
    (quiet : (s.unit u).mode = .quiet) :
    (s.emitBit u).unit u = { (s.unit u).silent with hold := false } := by
  rw [State.emitBit, h]
  simp only [quiet, if_true]
  exact unit_setUnit_self ..

/-- R76: while the resume hold stands the bit is silence. -/
theorem emitBit_held {s : State} {u : DriveId} {f : Format} (h : s.format u = some f) (loud : (s.unit u).mode ≠ .quiet)
    (held : (s.unit u).hold = true) (inside : s.position u % 8 ≠ 0) : (s.emitBit u).unit u = (s.unit u).silent := by
  rw [State.emitBit, h]
  simp only [if_neg loud, if_pos (show (s.unit u).hold = true ∧ s.position u % 8 ≠ 0 from ⟨held, inside⟩)]
  exact unit_setUnit_self ..

/-- R70: the field bytes that a bit of the stream is taken from. -/
def State.takenNow (s : State) (f : Format) (u : DriveId) : List Byte :=
  if (s.unit u).mode = .track ∧ s.position u % 8 = 0 then s.takenAt f u (s.position u / 8) (s.unit u).hold
  else (s.unit u).taken

/-- R68, R69, R71 to R73: the bit of the byte that the mode gives. -/
theorem emitBit_sounds {s : State} {u : DriveId} {f : Format} (h : s.format u = some f)
    (loud : (s.unit u).mode ≠ .quiet)
    (free : (s.unit u).hold = false ∨ s.position u % 8 = 0) :
    let b := (s.unit u).mode.byteAt f (s.takenNow f u) (s.position u / 8)
    (s.emitBit u).unit u =
      { s.unit u with
        hold := false, taken := s.takenNow f u
        clockCell := b.clockBit f.enc (s.unit u).prevBit (s.position u % 8)
        dataCell := b.dataBit (s.position u % 8), prevBit := b.dataBit (s.position u % 8) } := by
  have sounds : ¬ ((s.unit u).hold = true ∧ s.position u % 8 ≠ 0) := by
    rintro ⟨held, inside⟩
    exact free.elim (fun e => Bool.false_ne_true (e.symm.trans held)) inside
  rw [State.emitBit, h]
  simp only [if_neg loud, if_neg sounds]
  exact unit_setUnit_self ..

/-- R71: the clock of a byte that is no mark's. -/
theorem clockBit_ordinary {b : TrackByte} (h : b.marked = false) (e : Encoding) (prev : Bool) (i : Nat) :
    b.clockBit e prev i = (if e = .mfm then !prev && !b.dataBit i else true) := by
  unfold TrackByte.clockBit
  rw [h]
  cases e <;> rfl

theorem clockBit_marked {b : TrackByte} (h : b.marked = true) (e : Encoding) (prev : Bool) (i : Nat) :
    b.clockBit e prev i = (markClock e b.value).getLsbD (7 - i) := if_pos h

theorem gap_eq (f : Format) : f.gap = if f.enc = .mfm then 0x4E else 0xFF := by
  rw [Format.gap]
  cases f.enc <;> rfl

theorem markPreset_eq (e : Encoding) : e.markPreset = if e = .mfm then 0xCDB4 else 0xFFFF := by cases e <;> rfl

/-- R70: the bytes of an ID field and of a data field, each with its check value. -/
theorem idField_emitted {f : Format} {key : Key} {es : List Entry} {k : Nat} {e : Entry} (h : es[k]? = some e) :
    (idField f key es k).emitted f.enc =
      (let id : List Byte :=
        [BitVec.ofNat 8 key.cylinder, BitVec.ofNat 8 key.head, BitVec.ofNat 8 e.number, BitVec.ofNat 8 f.sizeCode]
      id ++ crcBytes (crc (if f.enc = .mfm then 0xCDB4 else 0xFFFF) (0xFE :: id))) := by
  rw [idField, h, Field.emitted, markPreset_eq]
  rfl

theorem dataField_emitted {f : Format} {es : List Entry} {k : Nat} {e : Entry} (h : es[k]? = some e) :
    (dataField es k).emitted f.enc =
      e.data ++ crcBytes (crc (if f.enc = .mfm then 0xCDB4 else 0xFFFF) (0xFB :: e.data)) := by
  rw [dataField, h, Field.emitted, markPreset_eq]
  rfl

/-- R69, R70: what the stream takes of the field that byte `j` lies in. -/
theorem takenNow_field {z : State} {f : Format} {u : DriveId} {x : Field} {start : Bool}
    (track : (z.unit u).mode = .track) (byte : z.position u % 8 = 0)
    (h : fieldAt f (z.key u) (z.entriesOf (z.key u)) (z.position u / 8) = some (x, start)) :
    z.takenNow f u = if start || (z.unit u).hold then x.emitted f.enc else (z.unit u).taken := by
  rw [State.takenNow, if_pos ⟨track, byte⟩]
  exact takenAt_field _ h

/-- R69, R70, R76: the field bytes of the stream at a byte of slot `k`, whose entry the holder of the key has. -/
theorem takenNow_slot {z : State} {f : Format} {u : DriveId} {k : Nat} {e : Entry} (hk : k < f.sectors)
    (entry : (z.entriesOf (z.key u))[k]? = some e) (track : (z.unit u).mode = .track) (byte : z.position u % 8 = 0) :
    let j := z.position u / 8
    let id : List Byte :=
      [ BitVec.ofNat 8 (z.key u).cylinder, BitVec.ofNat 8 (z.key u).head, BitVec.ofNat 8 e.number
      , BitVec.ofNat 8 f.sizeCode ]
    let preset : Word16 := if f.enc = .mfm then 0xCDB4 else 0xFFFF
    let idMark := f.prefixLen + k * f.blockLen + f.sync
    let dataMark := f.prefixLen + k * f.blockLen + f.dataMarkOffset
    (j = idMark ∨ (idMark < j ∧ j < idMark + f.mark + 6 ∧ (z.unit u).hold = true) →
      z.takenNow f u = id ++ crcBytes (crc preset (0xFE :: id))) ∧
    (j = dataMark ∨ (dataMark < j ∧ j < dataMark + f.mark + f.size + 2 ∧ (z.unit u).hold = true) →
      z.takenNow f u = e.data ++ crcBytes (crc preset (0xFB :: e.data))) ∧
    ((z.unit u).hold = false →
      (idMark < j ∧ j < idMark + f.mark + 6) ∨ (dataMark < j ∧ j < dataMark + f.mark + f.size + 2) →
      z.takenNow f u = (z.unit u).taken) := by
  intro j id preset idMark dataMark
  have idAt := fun low high =>
    takenNow_field track byte (fieldAt_id (j := j) (z.key u) (z.entriesOf (z.key u)) hk low high)
  have dataAt := fun low high =>
    takenNow_field track byte (fieldAt_data (j := j) (z.key u) (z.entriesOf (z.key u)) hk low high)
  have mark : 0 < f.mark := by rw [mark_eq]; split <;> decide
  refine ⟨fun taken => ?_, fun taken => ?_, fun running inside => ?_⟩
  · have now : (j == idMark || (z.unit u).hold) = true := by
      obtain e | ⟨-, -, held⟩ := taken
      · rw [e, beq_self_eq_true, Bool.true_or]
      · rw [held, Bool.or_true]
    exact ((idAt (by omega) (by omega)).trans (if_pos now)).trans (idField_emitted entry)
  · have now : (j == dataMark || (z.unit u).hold) = true := by
      obtain e | ⟨-, -, held⟩ := taken
      · rw [e, beq_self_eq_true, Bool.true_or]
      · rw [held, Bool.or_true]
    exact ((dataAt (by omega) (by omega)).trans (if_pos now)).trans (dataField_emitted entry)
  · have kept : ∀ n, n < j → ¬ (j == n || (z.unit u).hold) = true := fun n lt => by
      rw [running, Bool.or_false, beq_iff_eq]
      omega
    obtain ⟨low, high⟩ | ⟨low, high⟩ := inside
    · exact (idAt (by omega) high).trans (if_neg (kept _ low))
    · exact (dataAt (by omega) high).trans (if_neg (kept _ low))

/-- Settles O40: the next bit is emitted from a state with the keys, holders and entries of before, by the unit's mode,
and the parts of a sector block lie one after another. -/
theorem bitEmitted : Obligations.BitEmitted := by
  refine ⟨fun s t u f r h row => ?_, fun f taken k i hk => ?_⟩
  · obtain ⟨z, emits, unit, format, key, entries⟩ := advanceBit_emits (s := s.taken) r h
    have next : t = z.emitBit u := by
      have taken : s.taken.advanceBit u = t := (if_pos r).symm.trans (Host.Outcome.next.inj row)
      exact taken.symm.trans emits
    have position : z.position u = ((s.unit u).bitCount + 1) % f.revolution := by
      rw [position_eq format, unit]
      rfl
    have mode : (z.unit u).mode = (s.unit u).mode := by rw [unit]; rfl
    have hold : (z.unit u).hold = (s.unit u).hold := by rw [unit]; rfl
    have taken : (z.unit u).taken = (s.unit u).taken := by rw [unit]; rfl
    have prevBit : (z.unit u).prevBit = (s.unit u).prevBit := by rw [unit]; rfl
    subst next
    intro pos gap x y ordinary
    have place : z.position u = pos := position
    refine ⟨fun silence => ?_, fun loud held inside => ?_, fun loud free => ?_⟩
    · by_cases quiet : y.mode = .quiet
      · have silent := emitBit_quiet format (mode.trans quiet)
        rw [show x = _ from silent]
        exact ⟨rfl, rfl, rfl⟩
      · obtain ⟨held, inside⟩ := silence.resolve_left quiet
        have silent := emitBit_held format (by rw [mode]; exact quiet) (hold.trans held) (by rw [place]; exact inside)
        rw [show x = _ from silent]
        exact ⟨rfl, rfl, rfl⟩
    · have silent := emitBit_held format (by rw [mode]; exact loud) (hold.trans held) (by rw [place]; exact inside)
      exact (congrArg UnitState.hold silent).trans (hold.trans held)
    · have sounds := emitBit_sounds format (by rw [mode]; exact loud) (by rw [hold, place]; exact free)
      simp only [mode, prevBit, place] at sounds
      have takenX : x.taken = z.takenNow f u := congrArg UnitState.taken sounds
      have dataX : x.dataCell = _ := congrArg UnitState.dataCell sounds
      have clockX : x.clockCell = _ := congrArg UnitState.clockCell sounds
      have prevX : x.prevBit = _ := congrArg UnitState.prevBit sounds
      dsimp only at dataX clockX prevX
      refine ⟨congrArg UnitState.hold sounds, prevX.trans dataX.symm, fun filler => ?_, fun track => ?_⟩
      · rw [show (s.unit u).mode = .filler from filler] at dataX clockX
        refine ⟨dataX.trans ?_, ?_⟩
        · show (f.gap).getLsbD (7 - pos % 8) = _
          rw [gap_eq]
        · rw [clockBit_ordinary rfl, ← dataX] at clockX
          exact clockX
      · rw [show (s.unit u).mode = .track from track] at dataX clockX
        have byte : StreamMode.track.byteAt f (z.takenNow f u) (pos / 8) = trackByteAt f x.taken (pos / 8) := by
          rw [takenX]
          rfl
        rw [byte] at dataX clockX
        have tracks : (z.unit u).mode = .track := mode.trans track
        refine ⟨dataX, fun plain => ?_, fun marked => ?_, fun inside => ?_, fun c k e held hk entry aligned => ?_⟩
        · rw [clockBit_ordinary plain, ← dataX] at clockX
          exact clockX
        · exact clockX.trans (clockBit_marked marked ..)
        · rw [takenX, State.takenNow, if_neg fun h => inside (by rw [← place]; exact h.2)]
          exact taken
        · have entries' : z.entriesOf (z.key u) = (s.buffer c).entries := by
            rw [key]
            exact entries.trans (entriesOf_held (s := s.taken) held)
          have slot := takenNow_slot (u := u) hk (by rw [entries']; exact entry) tracks (by rw [place]; exact aligned)
          rw [place, key, hold, taken, ← takenX] at slot
          exact slot
  · intro block at_ gap sync mark g2 marks
    have syncs : f.sync = sync := sync_eq f
    have markLength : f.mark = mark := mark_eq f
    have gapLength : f.idGap = g2 := idGap_eq f
    have markBytes : ∀ final, i < mark → some (markByteAt f.enc 0xA1 final i) = (marks final)[i]? := fun final h =>
      markByteAt_eq final (by rw [markLength]; exact h)
    have bytes := sectorBlock_bytes f taken hk i
    rw [syncs, markLength, gapLength, gap_eq] at bytes
    obtain ⟨idSync, idMark, id, idGap, dataSync, dataMark, data, sectorGap⟩ := bytes
    refine ⟨idSync, fun h => ?_, id, idGap, dataSync, fun h => ?_, data, sectorGap⟩
    · exact (congrArg some (idMark h)).trans (markBytes _ h)
    · exact (congrArg some (dataMark h)).trans (markBytes _ h)

end Sys2Proof.Machine
end
